-- ==== Sys2Proof/Word.lean ====
section
/-! DEFINITION. The word types of the ECB and the 11-byte frame (spec 00_scope.md R8, R12). -/

namespace Sys2Proof

/-- A frame byte, an address byte, a parameter byte, a register number (R8). -/
abbrev Byte := BitVec 8

/-- A 16-bit quantity: a checksum, `t_high`, `t_low`, `t_on`, `t_off` (R8). -/
abbrev Half := BitVec 16

/-- A 64-bit quantity: a network byte counter, a binary64 pattern, RDATA (R8, R9). -/
abbrev DWord := BitVec 64

/-- The eleven bytes of a command frame (R78) or of a status frame (R81). Byte 0 is the one that is sent
first. The bus address byte is not one of them (90_conflicts.md C1). -/
structure Frame where
  b0 : Byte
  b1 : Byte
  b2 : Byte
  b3 : Byte
  b4 : Byte
  b5 : Byte
  b6 : Byte
  b7 : Byte
  b8 : Byte
  b9 : Byte
  b10 : Byte
  deriving DecidableEq, Repr

/-- The frame of eleven zero bytes: what CFRAME holds after reset (R27). -/
def Frame.zero : Frame := ⟨0, 0, 0, 0, 0, 0, 0, 0, 0, 0, 0⟩

end Sys2Proof
end

