-- ==== Sys2Proof/Syntax.lean ====
section
/-! DEFINITION. The vocabulary of the ECB: its instructions (one constructor per row of spec/opcode_table.json), its
register names, its fault names, and the three small value sets of its results. -/

namespace Sys2Proof

/-- One constructor per row of the opcode table. The first ten are the requests of 30_encoding.md R71 with the operands
of R72 and R75. The last five are the LED commands of R79: as something the host can ask of the ECB, each is the
pseudo-request of R86 that builds its frame (40_framer.md R106 to R110), so it carries the bus address byte too. -/
inductive Instr where
  /-- NOP (R100). -/
  | nop
  /-- RD regnum (R101). -/
  | rd (regnum : Byte)
  /-- FR_BUILD addr, opc, p0, p1, p2, p3 (R102). -/
  | frBuild (addr opc p0 p1 p2 p3 : Byte)
  /-- FR_BUILD_T addr, opc, t_on, t_off (R111). -/
  | frBuildT (addr opc : Byte) (tOn tOff : Half)
  /-- FR_VERIFY rlen, b0, ..., b10 (R112). -/
  | frVerify (rlen : Byte) (b : Frame)
  /-- FR_STATUS rlen, b0, ..., b10 (R114). -/
  | frStatus (rlen : Byte) (b : Frame)
  /-- CTR_INIT rx, tx (R140). -/
  | ctrInit (rx tx : DWord)
  /-- CTR_SAMPLE short, rx, tx (R142). `short` is bit 0 of the flags byte (R74). -/
  | ctrSample (short : Bool) (rx tx : DWord)
  /-- CLS_SETTH low, med, high (R160). -/
  | clsSetth (low med high : Byte)
  /-- CLS_CLASSIFY valid, usage (R163). `valid` is bit 0 of the flags byte (R74). -/
  | clsClassify (valid : Bool) (usage : DWord)
  /-- BRIGHTNESS, LED opcode 0x01 (R106): `LED_BRIGHT addr, level`. -/
  | brightness (addr level : Byte)
  /-- RGB, LED opcode 0x02 (R107): `LED_RGB addr, r, g, b`. -/
  | rgb (addr r g b : Byte)
  /-- ONOFF, LED opcode 0x03 (R108): `LED_ON addr` and `LED_OFF addr`. -/
  | onoff (addr : Byte) (on : Bool)
  /-- BLINK, LED opcode 0x04 (R109): `LED_BLINK addr, t_on, t_off`. -/
  | blink (addr : Byte) (tOn tOff : Half)
  /-- BREATH, LED opcode 0x05 (R110): `LED_BREATH addr, t_on, t_off`. -/
  | breath (addr : Byte) (tOn tOff : Half)
  deriving DecidableEq, Repr

/-- The ten requests of the op byte map (R71). -/
inductive Op where
  | nop | rd | frBuild | frBuildT | frVerify | frStatus | ctrInit | ctrSample | clsSetth | clsClassify
  deriving DecidableEq, Repr

/-- The registers that have a register number (10_state.md R46): every register but RDATA. -/
inductive Reg where
  | status | fault
  | addr | csum | vok | vsum
  | cframe (i : Fin 11)
  | stAvail | stReason | stMode | stBright | stR | stG | stB | stThigh | stTlow | stTon | stToff | stTanom
  | baseRx | baseTx | baseValid | deltaRx | deltaTx | deltaValid | wrapRx | wrapTx
  | thLow | thMed | thHigh | thValid | vstate | vsUpd
  deriving DecidableEq, Repr

/-- The eight faults (60_exceptions.md R180). -/
inductive FaultCode where
  | illegalOp | badLen | badLedOp | notInit | notConfig | usageNan | badReg | badField
  deriving DecidableEq, Repr

/-- The visual state VSTATE holds (30_encoding.md R83). -/
inductive VisualState where
  | off | low | medium | high
  deriving DecidableEq, Repr

/-- The operating mode ST_MODE holds (R82). -/
inductive LedMode where
  | off | on | blink | breath
  deriving DecidableEq, Repr

/-- The reason ST_REASON holds (R84). -/
inductive StatusReason where
  | none | length | checksum | mode
  deriving DecidableEq, Repr

end Sys2Proof
end

