-- ==== Sys2Proof/Machine/Operands.lean ====
section
/-! DEFINITION. Every operand form and every value computation of the ECB: byte order, the op byte, register and
fault numbers, the checksum, the LED time fields, the counter delta and the binary64 comparison. Nothing here reads a
state. -/

namespace Sys2Proof

/-! ### Byte order (20_memory.md R52, R53; 00_scope.md R12, R13) -/

/-- `v[15:8]` (R12). -/
def hiByte (v : Half) : Byte := v.extractLsb' 8 8

/-- `v[7:0]` (R12). -/
def loByte (v : Half) : Byte := v.extractLsb' 0 8

/-- The big-endian value of a run of bytes, the byte with the lowest index the most significant (R12, R13). -/
def beNat (bytes : List Byte) : Nat := bytes.foldl (fun acc b => acc * 256 + b.toNat) 0

/-- `a:b`, the big-endian 16-bit value of two bytes (R12). -/
def be16 (a b : Byte) : Half := BitVec.ofNat 16 (beNat [a, b])

/-- Byte `i` of a request (R13). Decoding asks only for bytes the length check has found present. -/
def byteAt (req : List Byte) (i : Nat) : Byte := req.getD i 0

/-- `be16(req, i)` (R13). -/
def be16At (req : List Byte) (i : Nat) : Half := be16 (byteAt req i) (byteAt req (i + 1))

/-- `be64(req, i)` (R13): the byte with the lowest index is the most significant. -/
def be64At (req : List Byte) (i : Nat) : DWord :=
  BitVec.ofNat 64 (beNat
    [byteAt req i, byteAt req (i + 1), byteAt req (i + 2), byteAt req (i + 3),
     byteAt req (i + 4), byteAt req (i + 5), byteAt req (i + 6), byteAt req (i + 7)])

/-- A 16-bit operand as request bytes, most significant first (R53). -/
def bytes16 (v : Half) : List Byte := [hiByte v, loByte v]

/-- A 64-bit operand as request bytes, most significant first (R53). -/
def bytes64 (v : DWord) : List Byte :=
  [v.extractLsb' 56 8, v.extractLsb' 48 8, v.extractLsb' 40 8, v.extractLsb' 32 8,
   v.extractLsb' 24 8, v.extractLsb' 16 8, v.extractLsb' 8 8, v.extractLsb' 0 8]

/-- The bytes of a frame in wire order, byte 0 first (R27, R54). -/
def Frame.toList (f : Frame) : List Byte :=
  [f.b0, f.b1, f.b2, f.b3, f.b4, f.b5, f.b6, f.b7, f.b8, f.b9, f.b10]

/-- Byte `i` of a frame. -/
def Frame.get (f : Frame) (i : Fin 11) : Byte := byteAt f.toList i

/-- The frame whose bytes are `req[i..i+10]`: `b[0..10]` of format PF for `i = 2` (R72). -/
def frameAt (req : List Byte) (i : Nat) : Frame :=
  ⟨byteAt req i, byteAt req (i + 1), byteAt req (i + 2), byteAt req (i + 3), byteAt req (i + 4), byteAt req (i + 5),
   byteAt req (i + 6), byteAt req (i + 7), byteAt req (i + 8), byteAt req (i + 9), byteAt req (i + 10)⟩

/-- A one-bit value zero-extended to 64 bits (R46). -/
def bit64 (b : Bool) : DWord := if b then 1 else 0

/-! ### Op bytes, lengths, register numbers, codes -/

/-- The op byte of a request (R71). -/
def Op.byte : Op → Byte
  | .nop => 0x00
  | .rd => 0x01
  | .frBuild => 0x10
  | .frBuildT => 0x11
  | .frVerify => 0x12
  | .frStatus => 0x13
  | .ctrInit => 0x20
  | .ctrSample => 0x21
  | .clsSetth => 0x30
  | .clsClassify => 0x31

/-- The length n of a request in bytes, its op byte included (R71). -/
def Op.length : Op → Nat
  | .nop => 1
  | .rd => 2
  | .frBuild => 7
  | .frBuildT => 7
  | .frVerify => 13
  | .frStatus => 13
  | .ctrInit => 17
  | .ctrSample => 18
  | .clsSetth => 4
  | .clsClassify => 10

/-- The requests of the op byte map (R71). -/
def allOps : List Op :=
  [.nop, .rd, .frBuild, .frBuildT, .frVerify, .frStatus, .ctrInit, .ctrSample, .clsSetth, .clsClassify]

/-- The request an op byte selects; none for a reserved op byte (R71, R76). -/
def opOf (b : Byte) : Option Op := allOps.find? fun op => op.byte == b

/-- The register numbers of 10_state.md R46: interface and framer. -/
def regTableFramer : List (Byte × Reg) :=
  [(0x00, .status), (0x01, .fault), (0x10, .addr), (0x11, .csum), (0x12, .vok), (0x13, .vsum),
   (0x20, .cframe 0), (0x21, .cframe 1), (0x22, .cframe 2), (0x23, .cframe 3), (0x24, .cframe 4), (0x25, .cframe 5),
   (0x26, .cframe 6), (0x27, .cframe 7), (0x28, .cframe 8), (0x29, .cframe 9), (0x2A, .cframe 10)]

/-- The register numbers of R46: the status snapshot. -/
def regTableSnapshot : List (Byte × Reg) :=
  [(0x30, .stAvail), (0x31, .stReason), (0x32, .stMode), (0x33, .stBright), (0x34, .stR), (0x35, .stG), (0x36, .stB),
   (0x37, .stThigh), (0x38, .stTlow), (0x39, .stTon), (0x3A, .stToff), (0x3B, .stTanom)]

/-- The register numbers of R46: counter and classifier. -/
def regTableUnits : List (Byte × Reg) :=
  [(0x40, .baseRx), (0x41, .baseTx), (0x42, .baseValid), (0x43, .deltaRx), (0x44, .deltaTx), (0x45, .deltaValid),
   (0x46, .wrapRx), (0x47, .wrapTx),
   (0x50, .thLow), (0x51, .thMed), (0x52, .thHigh), (0x53, .thValid), (0x54, .vstate), (0x55, .vsUpd)]

/-- The register number map of R46. -/
def regTable : List (Byte × Reg) := regTableFramer ++ regTableSnapshot ++ regTableUnits

/-- The register a register number names; none for a reserved number (R46, R77). -/
def regOf (n : Byte) : Option Reg := regTable.lookup n

/-- The code a fault records (60_exceptions.md R180). -/
def FaultCode.code : FaultCode → Byte
  | .illegalOp => 1
  | .badLen => 2
  | .badLedOp => 3
  | .notInit => 4
  | .notConfig => 5
  | .usageNan => 6
  | .badReg => 7
  | .badField => 8

/-- The number VSTATE holds for a visual state (30_encoding.md R83). -/
def VisualState.code : VisualState → BitVec 2
  | .off => 0
  | .low => 1
  | .medium => 2
  | .high => 3

/-- The number ST_MODE holds for a mode (R82). -/
def LedMode.code : LedMode → BitVec 2
  | .off => 0
  | .on => 1
  | .blink => 2
  | .breath => 3

/-- The number ST_REASON holds for a reason (R84). -/
def StatusReason.code : StatusReason → BitVec 2
  | .none => 0
  | .length => 1
  | .checksum => 2
  | .mode => 3

/-- The mode a status frame's byte 0 selects; none for 4 to 255 (R82). -/
def modeOf (b : Byte) : Option LedMode :=
  if b = 0 then some .off
  else if b = 1 then some .on
  else if b = 2 then some .blink
  else if b = 3 then some .breath
  else none

/-! ### LED opcodes (30_encoding.md R79, R80) -/

/-- LED opcode of BRIGHTNESS. -/
def ledBrightness : Byte := 0x01
/-- LED opcode of RGB. -/
def ledRgb : Byte := 0x02
/-- LED opcode of ONOFF. -/
def ledOnoff : Byte := 0x03
/-- LED opcode of BLINK. -/
def ledBlink : Byte := 0x04
/-- LED opcode of BREATH. -/
def ledBreath : Byte := 0x05

/-- The LED opcodes FR_BUILD takes (R80, R102). -/
def ledOpcodeLegal (opc : Byte) : Bool :=
  opc == ledBrightness || opc == ledRgb || opc == ledOnoff || opc == ledBlink || opc == ledBreath

/-- The LED opcodes FR_BUILD_T takes (R80, R111). -/
def ledOpcodeTimed (opc : Byte) : Bool := opc == ledBlink || opc == ledBreath

/-! ### Frames (40_framer.md R102, R103, R109, R117) -/

/-- CHK9: the sum of frame bytes 0 to 8 modulo 2^16, with no seed, no folding and no inversion (R103). -/
def chk9 (f : Frame) : Half :=
  f.b0.setWidth 16 + f.b1.setWidth 16 + f.b2.setWidth 16 + f.b3.setWidth 16 + f.b4.setWidth 16 +
    f.b5.setWidth 16 + f.b6.setWidth 16 + f.b7.setWidth 16 + f.b8.setWidth 16

/-- A frame with its checksum bytes written: byte 9 the high byte and byte 10 the low byte of CHK9 (R52, R78). -/
def Frame.seal (f : Frame) : Frame := { f with b9 := hiByte (chk9 f), b10 := loByte (chk9 f) }

/-- The LED command frame of an opcode and four parameters (R78, R102). -/
def commandFrame (opc p0 p1 p2 p3 : Byte) : Frame :=
  Frame.seal ⟨0xA0, 0x01, 0x00, 0x00, opc, p0, p1, p2, p3, 0, 0⟩

/-- `t_high = (t_on + t_off) mod 2^16` (R109, R111). -/
def tHighOf (tOn tOff : Half) : Half := tOn + tOff

/-- The frame FR_BUILD_T builds: t_high in p0:p1 and t_low = t_on in p2:p3, each high byte first (R109, R111). -/
def timedFrame (opc : Byte) (tOn tOff : Half) : Frame :=
  commandFrame opc (hiByte (tHighOf tOn tOff)) (loByte (tHighOf tOn tOff)) (hiByte tOn) (loByte tOn)

/-- `t_off = (t_high - t_low) mod 2^16` (R117). -/
def tOffOf (tHigh tLow : Half) : Half := tHigh - tLow

/-! ### Counters (41_counter.md R141) -/

/-- WDELTA: the source's formula, across a wrap one less than the modular difference (R141, R148, 90_conflicts.md C2). -/
def wdelta (cur prev : DWord) : DWord :=
  if prev ≤ cur then cur - prev else (BitVec.allOnes 64 - prev) + cur

/-! ### Binary64 (00_scope.md R14; UNVERIFIED by the spec's own mark, log entry 10) -/

/-- Sign bit 63. -/
def f64Sign (w : DWord) : Bool := w.getLsbD 63

/-- Exponent bits 62:52. -/
def f64Exp (w : DWord) : Nat := (w.extractLsb' 52 11).toNat

/-- Fraction bits 51:0. -/
def f64Frac (w : DWord) : Nat := (w.extractLsb' 0 52).toNat

/-- The exponent of the infinities and the NaNs. -/
def f64Special (w : DWord) : Bool := f64Exp w == 0x7FF

/-- The scale that makes every finite binary64 value an integer: the smallest subnormal is 2^-1074. -/
def f64Scale : Nat := 2 ^ 1075

/-- The magnitude of a finite binary64 value, times `f64Scale`. -/
def f64Magnitude (w : DWord) : Nat :=
  if f64Exp w = 0 then f64Frac w * 2 else (2 ^ 52 + f64Frac w) * 2 ^ f64Exp w

/-- A finite binary64 value, times `f64Scale`. Both zeros give 0. -/
def f64Scaled (w : DWord) : Int := if f64Sign w then -(f64Magnitude w : Int) else (f64Magnitude w : Int)

/-- `f64(w) < t` for a pattern that is not a NaN: the exact comparison of R14, with no rounding. -/
def f64Lt (w : DWord) (t : Nat) : Bool :=
  if f64Special w then f64Sign w else decide (f64Scaled w < (t * f64Scale : Nat))

/-- CLASSIFY: the first-match chain of 42_classifier.md R162. -/
def classify (u : DWord) (l m h : Byte) : VisualState :=
  if f64Lt u l.toNat then .off
  else if f64Lt u m.toNat then .low
  else if f64Lt u h.toNat then .medium
  else .high

end Sys2Proof
end

