-- ==== Sys2Proof/Machine/Flags.lean ====
section
/-! DEFINITION. Every flag and verdict the ECB computes. -/

namespace Sys2Proof

/-- VERIFY11, the value of VOK: eleven bytes read, a checksum that is not zero, and trailing bytes equal to it
(40_framer.md R113). -/
def verify11 (rlen : Byte) (b : Frame) : Bool :=
  rlen == 11 && chk9 b != 0 && chk9 b == be16 b.b9 b.b10

/-- The value of ST_REASON: LENGTH, then CHECKSUM, then MODE (R114, R84). -/
def statusReason (rlen : Byte) (b : Frame) : StatusReason :=
  if rlen ≠ 11 then .length
  else if verify11 rlen b = false then .checksum
  else if 3 < b.b0.toNat then .mode
  else .none

/-- The value of ST_TANOM: `t_high < t_low` (R117). -/
def timeAnomaly (tHigh tLow : Half) : Bool := decide (tHigh < tLow)

/-- The value of WRAP_RX and WRAP_TX: the branch of WDELTA taken (41_counter.md R143). -/
def wrapFlag (cur prev : DWord) : Bool := decide (cur < prev)

/-- The value of DELTA_VALID: `1 - SHORT` (R144). -/
def deltaValidOf (short : Bool) : Bool := !short

/-- `isNaN` (00_scope.md R14). -/
def isNaN (w : DWord) : Bool := f64Special w && f64Frac w != 0

/-- Flags bits 7:1 of CTR_SAMPLE and CLS_CLASSIFY, which must be 0 (30_encoding.md R74). -/
def reservedFlagBits (flags : Byte) : Bool := flags.extractLsb' 1 7 != 0

/-- Flags bit 0: SHORT or VALID (R74, R75). -/
def flagBit (flags : Byte) : Bool := flags.getLsbD 0

/-- The flags byte of a flag, its reserved bits 0 (R74). -/
def flagByte (flag : Bool) : Byte := if flag then 1 else 0

/-- The bit of FAULT a fault code sets: bit c - 1 (10_state.md R24, 60_exceptions.md R181). -/
def faultBit (c : FaultCode) : Byte := 1#8 <<< (c.code.toNat - 1)

end Sys2Proof
end

