-- ==== Sys2Proof/WellFormed.lean ====
section
/-! DEFINITION. Well-formed instructions: no operand holds an encoding the spec reserves (30_encoding.md R77, R80). An
ill-formed one still decodes and still runs; its run is the fault the spec names. -/

namespace Sys2Proof

/-- No reserved register number, no LED opcode the request refuses. Every other operand takes every value of its
width (R75). -/
def Instr.wellFormed : Instr → Bool
  | .nop => true
  | .rd regnum => (regOf regnum).isSome
  | .frBuild _ opc _ _ _ _ => ledOpcodeLegal opc
  | .frBuildT _ opc _ _ => ledOpcodeTimed opc
  | .frVerify _ _ => true
  | .frStatus _ _ => true
  | .ctrInit _ _ => true
  | .ctrSample _ _ _ => true
  | .clsSetth _ _ _ => true
  | .clsClassify _ _ => true
  | .brightness _ _ => true
  | .rgb _ _ _ _ => true
  | .onoff _ _ => true
  | .blink _ _ _ => true
  | .breath _ _ _ => true

end Sys2Proof
end

