-- ==== Sys2Proof/Decode.lean ====
section
/-! DEFINITION. Reading a request packet, writing one, reading a byte stream, and reading an LED command frame
(spec 30_encoding.md). -/

namespace Sys2Proof

/-- Why a request packet is no instruction, in the order the checks are made (60_exceptions.md R183, 1 to 4). -/
inductive DecodeError where
  /-- n = 0 (R70). -/
  | emptyRequest
  /-- A reserved op byte (R76). -/
  | illegalOp (op : Byte)
  /-- A length other than the op's (R73). -/
  | badLength (op : Op) (n : Nat)
  /-- Reserved flags bits set (R74). -/
  | badField (flags : Byte)
  deriving DecidableEq, Repr

/-- The fault a refused packet raises (R180). -/
def DecodeError.faultCode : DecodeError → FaultCode
  | .emptyRequest => .badLen
  | .illegalOp _ => .illegalOp
  | .badLength _ _ => .badLen
  | .badField _ => .badField

/-- Whether the packet is of an op with a flags byte whose reserved bits are set (R74). -/
def hasBadField (op : Op) (req : List Byte) : Bool :=
  match op with
  | .ctrSample => reservedFlagBits (byteAt req 1)
  | .clsClassify => reservedFlagBits (byteAt req 1)
  | .nop | .rd | .frBuild | .frBuildT | .frVerify | .frStatus | .ctrInit | .clsSetth => false

/-- The operands of a packet of the right length, at the positions of R72. -/
def operandsOf (op : Op) (req : List Byte) : Instr :=
  match op with
  | .nop => .nop
  | .rd => .rd (byteAt req 1)
  | .frBuild => .frBuild (byteAt req 1) (byteAt req 2) (byteAt req 3) (byteAt req 4) (byteAt req 5) (byteAt req 6)
  | .frBuildT => .frBuildT (byteAt req 1) (byteAt req 2) (be16At req 3) (be16At req 5)
  | .frVerify => .frVerify (byteAt req 1) (frameAt req 2)
  | .frStatus => .frStatus (byteAt req 1) (frameAt req 2)
  | .ctrInit => .ctrInit (be64At req 1) (be64At req 9)
  | .ctrSample => .ctrSample (flagBit (byteAt req 1)) (be64At req 2) (be64At req 10)
  | .clsSetth => .clsSetth (byteAt req 1) (byteAt req 2) (byteAt req 3)
  | .clsClassify => .clsClassify (flagBit (byteAt req 1)) (be64At req 2)

/-- Decoding a request packet. It reads the packet's bytes and nothing else (R70), and its checks come in the order of
R183. -/
def decode (req : List Byte) : Except DecodeError Instr :=
  match req with
  | [] => .error .emptyRequest
  | b :: _ =>
    match opOf b with
    | none => .error (.illegalOp b)
    | some op =>
      if req.length ≠ op.length then .error (.badLength op req.length)
      else if hasBadField op req then .error (.badField (byteAt req 1))
      else .ok (operandsOf op req)

/-- The request an LED command's pseudo-request expands to (R86); a request is its own expansion. -/
def Instr.expand : Instr → Instr
  | .brightness addr level => .frBuild addr ledBrightness level 0 0 0
  | .rgb addr r g b => .frBuild addr ledRgb r g b 0
  | .onoff addr on => .frBuild addr ledOnoff (flagByte on) 0 0 0
  | .blink addr tOn tOff => .frBuildT addr ledBlink tOn tOff
  | .breath addr tOn tOff => .frBuildT addr ledBreath tOn tOff
  | .nop => .nop
  | .rd n => .rd n
  | .frBuild addr opc p0 p1 p2 p3 => .frBuild addr opc p0 p1 p2 p3
  | .frBuildT addr opc tOn tOff => .frBuildT addr opc tOn tOff
  | .frVerify rlen b => .frVerify rlen b
  | .frStatus rlen b => .frStatus rlen b
  | .ctrInit rx tx => .ctrInit rx tx
  | .ctrSample short rx tx => .ctrSample short rx tx
  | .clsSetth low med high => .clsSetth low med high
  | .clsClassify valid usage => .clsClassify valid usage

/-- The op of the request an instruction is sent as. -/
def Instr.op : Instr → Op
  | .nop => .nop
  | .rd _ => .rd
  | .frBuild _ _ _ _ _ _ => .frBuild
  | .frBuildT _ _ _ _ => .frBuildT
  | .frVerify _ _ => .frVerify
  | .frStatus _ _ => .frStatus
  | .ctrInit _ _ => .ctrInit
  | .ctrSample _ _ _ => .ctrSample
  | .clsSetth _ _ _ => .clsSetth
  | .clsClassify _ _ => .clsClassify
  | .brightness _ _ => .frBuild
  | .rgb _ _ _ _ => .frBuild
  | .onoff _ _ => .frBuild
  | .blink _ _ _ => .frBuildT
  | .breath _ _ _ => .frBuildT

/-- Whether the instruction is one of the ten requests of R71, not an LED command. -/
def Instr.isRequest : Instr → Bool
  | .nop | .rd _ | .frBuild _ _ _ _ _ _ | .frBuildT _ _ _ _ | .frVerify _ _ | .frStatus _ _ | .ctrInit _ _
  | .ctrSample _ _ _ | .clsSetth _ _ _ | .clsClassify _ _ => true
  | .brightness _ _ | .rgb _ _ _ _ | .onoff _ _ | .blink _ _ _ | .breath _ _ _ => false

/-- The request packet of an instruction (R71, R72), an LED command's being that of its expansion (R86). -/
def encode : Instr → List Byte
  | .nop => [0x00]
  | .rd regnum => [0x01, regnum]
  | .frBuild addr opc p0 p1 p2 p3 => [0x10, addr, opc, p0, p1, p2, p3]
  | .frBuildT addr opc tOn tOff => [0x11, addr, opc] ++ bytes16 tOn ++ bytes16 tOff
  | .frVerify rlen b => [0x12, rlen] ++ b.toList
  | .frStatus rlen b => [0x13, rlen] ++ b.toList
  | .ctrInit rx tx => [0x20] ++ bytes64 rx ++ bytes64 tx
  | .ctrSample short rx tx => [0x21, flagByte short] ++ bytes64 rx ++ bytes64 tx
  | .clsSetth low med high => [0x30, low, med, high]
  | .clsClassify valid usage => [0x31, flagByte valid] ++ bytes64 usage
  | .brightness addr level => [0x10, addr, 0x01, level, 0, 0, 0]
  | .rgb addr r g b => [0x10, addr, 0x02, r, g, b, 0]
  | .onoff addr on => [0x10, addr, 0x03, flagByte on, 0, 0, 0]
  | .blink addr tOn tOff => [0x11, addr, 0x04] ++ bytes16 tOn ++ bytes16 tOff
  | .breath addr tOn tOff => [0x11, addr, 0x05] ++ bytes16 tOn ++ bytes16 tOff

/-! ### Byte streams (R87) -/

/-- The first request of a byte stream and the rest of the stream: the op byte fixes the length (R87). A stream that
ends before the request does is refused with BAD_LEN (log entry 16). -/
def takeRequest (stream : List Byte) : Except DecodeError (List Byte × List Byte) :=
  match stream with
  | [] => .error .emptyRequest
  | b :: _ =>
    match opOf b with
    | none => .error (.illegalOp b)
    | some op =>
      if stream.length < op.length then .error (.badLength op stream.length)
      else .ok (stream.take op.length, stream.drop op.length)

/-- The requests of a byte stream, at most `fuel` of them. Where the stream stops (at a reserved op byte, R87, or inside a
request) the answer is the error alone, and the requests already split are dropped: DESIGN CHOICE, for R87 says only that
the decoder stops (log entry 16). The second case, out of fuel, is never reached from `splitStream`. -/
def splitStreamFuel : Nat → List Byte → Except DecodeError (List (List Byte))
  | _, [] => .ok []
  | 0, b :: _ => .error (.illegalOp b)
  | fuel + 1, b :: rest =>
    match takeRequest (b :: rest) with
    | .error e => .error e
    | .ok (req, rest') =>
      match splitStreamFuel fuel rest' with
      | .error e => .error e
      | .ok reqs => .ok (req :: reqs)

/-- The requests of a byte stream (R87), or the error alone where it stops (DESIGN CHOICE, log entry 16); `takeRequest`
gives the requests before that one by one. Every request takes at least one byte, so the fuel suffices. -/
def splitStream (stream : List Byte) : Except DecodeError (List (List Byte)) :=
  splitStreamFuel stream.length stream

/-! ### LED command frames (R78, R79)

The ECB builds command frames and reads none (91_not_in_source.md N6). What follows reads one back, to say which LED
command it is the frame of. -/

/-- Why eleven bytes are no LED command's frame. -/
inductive LedFrameError where
  /-- Bytes 0 to 3 are not A0 01 00 00 (R78). -/
  | badHeader
  /-- The trailing bytes are not the checksum (R78). -/
  | badChecksum
  /-- An LED opcode the source does not name (R80). -/
  | reservedOpcode (opc : Byte)
  /-- A parameter R79 gives the value 0 is not 0, or ONOFF's is neither 0 nor 1. -/
  | badParameter
  deriving DecidableEq, Repr

/-- The LED command of an opcode and four parameters, sent to `addr` (R79; the times by R117). -/
def ledCommandOf (addr opc p0 p1 p2 p3 : Byte) : Except LedFrameError Instr :=
  if opc = ledBrightness then
    if p1 = 0 ∧ p2 = 0 ∧ p3 = 0 then .ok (.brightness addr p0) else .error .badParameter
  else if opc = ledRgb then
    if p3 = 0 then .ok (.rgb addr p0 p1 p2) else .error .badParameter
  else if opc = ledOnoff then
    if p1 = 0 ∧ p2 = 0 ∧ p3 = 0 ∧ (p0 = 0 ∨ p0 = 1) then .ok (.onoff addr (p0 == 1)) else .error .badParameter
  else if opc = ledBlink then
    .ok (.blink addr (be16 p2 p3) (tOffOf (be16 p0 p1) (be16 p2 p3)))
  else if opc = ledBreath then
    .ok (.breath addr (be16 p2 p3) (tOffOf (be16 p0 p1) (be16 p2 p3)))
  else .error (.reservedOpcode opc)

/-- The LED command a command frame sent to `addr` stands for (R78, R79). -/
def decodeLedFrame (addr : Byte) (f : Frame) : Except LedFrameError Instr :=
  if f.b0 = 0xA0 ∧ f.b1 = 0x01 ∧ f.b2 = 0x00 ∧ f.b3 = 0x00 then
    if verify11 11 f then ledCommandOf addr f.b4 f.b5 f.b6 f.b7 f.b8 else .error .badChecksum
  else .error .badHeader

/-! ### Words numbered as the opcode table numbers them (log entry 6) -/

/-- The `n` lowest bytes of a number, the lowest first. -/
def wordBytes : Nat → Nat → List Byte
  | 0, _ => []
  | n + 1, w => BitVec.ofNat 8 w :: wordBytes n (w / 256)

/-- The bits of a table word. -/
def tableBits (nbits w : Nat) : Nat := w % 2 ^ nbits

/-- Whether `nbits` is how many bits the table gives an LED-frame row: its mask's five bytes, or the whole frame's
eleven. No request has either length. -/
def isLedRow (nbits : Nat) : Bool := nbits == 40 || nbits == 88

/-- A frame whose checksum bytes the table word leaves 0 gets its checksum: a checksum of 0 is no frame's (R105), so
zeros there mean that the word does not give them. -/
def completeChecksum (f : Frame) : Frame := if f.b9 = 0 ∧ f.b10 = 0 then f.seal else f

/-- The LED command of a table word of an LED-frame row, for bus address 0. Frame byte 0 is in the lowest eight bits; or,
as the table itself writes `match`, in the highest eight of the row's bits. -/
def ledRowInstr (nbits w : Nat) : Option Instr :=
  match decodeLedFrame 0 (completeChecksum (frameAt (wordBytes 11 (tableBits nbits w)) 0)) with
  | .ok i => some i
  | .error _ =>
    (decodeLedFrame 0 (completeChecksum (frameAt (wordBytes (nbits / 8) (tableBits nbits w)).reverse 0))).toOption

/-- The request packet of a table word: as many bytes as its op byte asks for, byte 0 the lowest, and the op byte alone
where that is reserved. For an LED-frame row it is the request that builds the frame (R86). -/
def tablePacket (nbits w : Nat) : List Byte :=
  match isLedRow nbits, ledRowInstr nbits w with
  | true, some i => encode i
  | _, _ =>
    match opOf (BitVec.ofNat 8 (tableBits nbits w)) with
    | some op => wordBytes op.length (tableBits nbits w)
    | none => [BitVec.ofNat 8 (tableBits nbits w)]

/-- The instruction a table word stands for: a request row's by `decode`, an LED-frame row's by `decodeLedFrame`. -/
def decodeTableWord (nbits w : Nat) : Option Instr :=
  if isLedRow nbits then ledRowInstr nbits w else (decode (tablePacket nbits w)).toOption

end Sys2Proof
end

