-- ==== Sys2Proof/Machine/State.lean ====
section
/-! DEFINITION. The state of the ECB: every register of spec 10_state.md, and the host's list of requests still to be
issued, from which the next step takes its request. -/

namespace Sys2Proof.Machine

open Sys2Proof

/-- What the host does next to the ECB: it issues a request, or it resets the block. -/
inductive HostEvent where
  /-- A request packet: any byte string (30_encoding.md R70). -/
  | request (bytes : List Byte)
  /-- Reset or power-on, during a request or between two (70_reset_and_hazards.md R200, R203, R210). -/
  | reset (inProgress : Option (List Byte))
  deriving DecidableEq, Repr

/-- The ST_* registers, the source's LedStatusSnapshot (R31 to R36). FR_STATUS writes all of them at once (R114, R116). -/
structure Snapshot where
  /-- ST_AVAIL, 1 bit, 0x30 (R31). -/
  avail : Bool
  /-- ST_REASON, 2 bits, 0x31 (R32). -/
  reason : StatusReason
  /-- ST_MODE, 2 bits, 0x32 (R33). -/
  mode : LedMode
  /-- ST_BRIGHT, 8 bits, 0x33 (R34). -/
  bright : Byte
  /-- ST_R, 8 bits, 0x34 (R34). -/
  r : Byte
  /-- ST_G, 8 bits, 0x35 (R34). -/
  g : Byte
  /-- ST_B, 8 bits, 0x36 (R34). -/
  b : Byte
  /-- ST_THIGH, 16 bits, 0x37 (R35). -/
  tHigh : Half
  /-- ST_TLOW, 16 bits, 0x38 (R35). -/
  tLow : Half
  /-- ST_TON, 16 bits, 0x39 (R36). -/
  tOn : Half
  /-- ST_TOFF, 16 bits, 0x3A (R36). -/
  tOff : Half
  /-- ST_TANOM, 1 bit, 0x3B (R36). -/
  tAnom : Bool
  deriving DecidableEq, Repr

/-- The state of the machine. Every field but `host` is a register of 10_state.md, and the ECB has no other state (R47). -/
structure State where
  /-- STATUS, 8 bits, 0x00 (R23). -/
  status : Byte
  /-- FAULT, 8 bits, 0x01 (R24). -/
  fault : Byte
  /-- RDATA, 64 bits, no register number (R25). -/
  rdata : DWord
  /-- ADDR, 8 bits, 0x10 (R26). -/
  addr : Byte
  /-- CFRAME[0..10], 8 bits each, 0x20 to 0x2A (R27). -/
  cframe : Frame
  /-- CSUM, 16 bits, 0x11 (R28). -/
  csum : Half
  /-- VOK, 1 bit, 0x12 (R29). -/
  vok : Bool
  /-- VSUM, 16 bits, 0x13 (R30). -/
  vsum : Half
  /-- ST_AVAIL to ST_TANOM, 0x30 to 0x3B (R31 to R36). -/
  snap : Snapshot
  /-- BASE_RX, 64 bits, 0x40 (R37). -/
  baseRx : DWord
  /-- BASE_TX, 64 bits, 0x41 (R37). -/
  baseTx : DWord
  /-- BASE_VALID, 1 bit, 0x42 (R38). -/
  baseValid : Bool
  /-- DELTA_RX, 64 bits, 0x43 (R39). -/
  deltaRx : DWord
  /-- DELTA_TX, 64 bits, 0x44 (R39). -/
  deltaTx : DWord
  /-- DELTA_VALID, 1 bit, 0x45 (R40). -/
  deltaValid : Bool
  /-- WRAP_RX, 1 bit, 0x46 (R41). -/
  wrapRx : Bool
  /-- WRAP_TX, 1 bit, 0x47 (R41). -/
  wrapTx : Bool
  /-- TH_LOW, 8 bits, 0x50 (R42). -/
  thLow : Byte
  /-- TH_MED, 8 bits, 0x51 (R42). -/
  thMed : Byte
  /-- TH_HIGH, 8 bits, 0x52 (R42). -/
  thHigh : Byte
  /-- TH_VALID, 1 bit, 0x53 (R43). -/
  thValid : Bool
  /-- VSTATE, 2 bits, 0x54 (R44). -/
  vstate : VisualState
  /-- VS_UPD, 1 bit, 0x55 (R45). -/
  vsUpd : Bool
  /-- The MODEL's own field, no register: what the host will do next, first to last (R21, log entry 1). -/
  host : List HostEvent
  deriving DecidableEq, Repr

/-- Nothing stops the ECB: its own faults are results it records and goes on from (60_exceptions.md R181, R186), so there
is no way for a step to end in a fault of the model, and this type has no constructor (log entry 12). -/
inductive Fault where
  deriving DecidableEq, Repr

/-- Why a step is refused. No instruction of the table is. -/
inductive Refusal where
  /-- An instruction without a meaning. The dispatcher alone raises it, and no arm of it does so now; safe. -/
  | notModelled (mnemonic : String)
  deriving DecidableEq, Repr

/-- The snapshot registers after reset (70_reset_and_hazards.md R201). -/
def Snapshot.reset : Snapshot := ⟨false, .none, .off, 0, 0, 0, 0, 0, 0, 0, 0, false⟩

/-- Every register at its reset value, which is 0 (R200, R201), and a host that has issued nothing yet (R202). -/
def State.reset : State where
  status := 0
  fault := 0
  rdata := 0
  addr := 0
  cframe := Frame.zero
  csum := 0
  vok := false
  vsum := 0
  snap := Snapshot.reset
  baseRx := 0
  baseTx := 0
  baseValid := false
  deltaRx := 0
  deltaTx := 0
  deltaValid := false
  wrapRx := false
  wrapTx := false
  thLow := 0
  thMed := 0
  thHigh := 0
  thValid := false
  vstate := .off
  vsUpd := false
  host := []

end Sys2Proof.Machine
end

