-- ==== Sys2Proof/Machine/Ops.lean ====
section
/-! DEFINITION. The named operations over the registers: taking a fault, completing, reading a register, and the one
write each unit makes. Each request is one atomic step, so each write is made whole (20_memory.md R56). -/

namespace Sys2Proof.Machine

open Sys2Proof

/-! ### How a request ends -/

/-- Taking a fault: STATUS holds the code, FAULT's bit for it is set, no other register changes (60_exceptions.md R181).
There is no trap entry and no return: no mode, no saved state, no vector, and the next request runs as any other (R185,
R186). -/
def State.raise (c : FaultCode) (s : State) : State :=
  { s with status := c.code, fault := s.fault ||| faultBit c }

/-- Completing: STATUS is 0, FAULT stays as it is (R180, R182). -/
def State.complete (s : State) : State := { s with status := 0 }

/-! ### What each unit writes -/

/-- RD's response port (10_state.md R25). -/
def State.loadRData (v : DWord) (s : State) : State := { s with rdata := v }

/-- A built command frame: ADDR, CFRAME, and CSUM equal to CFRAME[9]:CFRAME[10] (R26, R27, R28). -/
def State.loadFrame (addr : Byte) (f : Frame) (s : State) : State :=
  { s with addr := addr, cframe := f, csum := chk9 f }

/-- The verdict on a received frame: the sum whatever the verdict (R29, R30). -/
def State.loadVerdict (rlen : Byte) (b : Frame) (s : State) : State :=
  { s with vsum := chk9 b, vok := verify11 rlen b }

/-- The status snapshot (R31 to R36). -/
def State.loadSnapshot (p : Snapshot) (s : State) : State := { s with snap := p }

/-- The baseline sample (R37). -/
def State.loadBaseline (rx tx : DWord) (s : State) : State := { s with baseRx := rx, baseTx := tx }

/-- BASE_VALID, only ever written with 1 (R38). -/
def State.setBaseValid (s : State) : State := { s with baseValid := true }

/-- A reading: both deltas, the validity flag, both wrap flags (R39, R40, R41). -/
def State.loadReading (dRx dTx : DWord) (valid wRx wTx : Bool) (s : State) : State :=
  { s with deltaRx := dRx, deltaTx := dTx, deltaValid := valid, wrapRx := wRx, wrapTx := wTx }

/-- The threshold set, whole, and TH_VALID (R42, R43). -/
def State.loadThresholds (low med high : Byte) (s : State) : State :=
  { s with thLow := low, thMed := med, thHigh := high, thValid := true }

/-- A classification: VSTATE and VS_UPD = 1 (R44, R45). -/
def State.loadVisual (v : VisualState) (s : State) : State := { s with vstate := v, vsUpd := true }

/-- A reading that was not consumed: VS_UPD = 0, VSTATE as it was (R45, 42_classifier.md R164). -/
def State.skipVisual (s : State) : State := { s with vsUpd := false }

/-! ### Reading a register -/

/-- The value RD gives for a register, zero-extended to 64 bits (R46). -/
def State.read (s : State) : Reg → DWord
  | .status => s.status.setWidth 64
  | .fault => s.fault.setWidth 64
  | .addr => s.addr.setWidth 64
  | .csum => s.csum.setWidth 64
  | .vok => bit64 s.vok
  | .vsum => s.vsum.setWidth 64
  | .cframe i => (s.cframe.get i).setWidth 64
  | .stAvail => bit64 s.snap.avail
  | .stReason => s.snap.reason.code.setWidth 64
  | .stMode => s.snap.mode.code.setWidth 64
  | .stBright => s.snap.bright.setWidth 64
  | .stR => s.snap.r.setWidth 64
  | .stG => s.snap.g.setWidth 64
  | .stB => s.snap.b.setWidth 64
  | .stThigh => s.snap.tHigh.setWidth 64
  | .stTlow => s.snap.tLow.setWidth 64
  | .stTon => s.snap.tOn.setWidth 64
  | .stToff => s.snap.tOff.setWidth 64
  | .stTanom => bit64 s.snap.tAnom
  | .baseRx => s.baseRx
  | .baseTx => s.baseTx
  | .baseValid => bit64 s.baseValid
  | .deltaRx => s.deltaRx
  | .deltaTx => s.deltaTx
  | .deltaValid => bit64 s.deltaValid
  | .wrapRx => bit64 s.wrapRx
  | .wrapTx => bit64 s.wrapTx
  | .thLow => s.thLow.setWidth 64
  | .thMed => s.thMed.setWidth 64
  | .thHigh => s.thHigh.setWidth 64
  | .thValid => bit64 s.thValid
  | .vstate => s.vstate.code.setWidth 64
  | .vsUpd => bit64 s.vsUpd

/-! ### Status frames -/

/-- The snapshot when there is none: every field but the reason 0 (40_framer.md R116). -/
def Snapshot.unavailable (reason : StatusReason) : Snapshot := { Snapshot.reset with reason := reason }

/-- The snapshot a checked status frame of a known mode gives (R114, R115, R117). -/
def Snapshot.ofFrame (mode : LedMode) (b : Frame) : Snapshot where
  avail := true
  reason := .none
  mode := mode
  bright := b.b1
  r := b.b2
  g := b.b3
  b := b.b4
  tHigh := be16 b.b5 b.b6
  tLow := be16 b.b7 b.b8
  tOn := be16 b.b7 b.b8
  tOff := tOffOf (be16 b.b5 b.b6) (be16 b.b7 b.b8)
  tAnom := timeAnomaly (be16 b.b5 b.b6) (be16 b.b7 b.b8)

/-- The snapshot FR_STATUS leaves (R114). `statusReason` is `none` only where the mode is known. -/
def Snapshot.decode (rlen : Byte) (b : Frame) : Snapshot :=
  match statusReason rlen b, modeOf b.b0 with
  | .none, some mode => Snapshot.ofFrame mode b
  | reason, _ => Snapshot.unavailable reason

/-! ### The two ways a frame is built -/

/-- Building a command frame from four parameters: the shared part of FR_BUILD and of the LED commands (R102). -/
def State.buildFrame (addr opc p0 p1 p2 p3 : Byte) (s : State) : State :=
  if ledOpcodeLegal opc then (s.loadFrame addr (commandFrame opc p0 p1 p2 p3)).complete else s.raise .badLedOp

/-- Building a command frame from on and off times: the shared part of FR_BUILD_T and of BLINK and BREATH (R111). -/
def State.buildTimedFrame (addr opc : Byte) (tOn tOff : Half) (s : State) : State :=
  if ledOpcodeTimed opc then (s.loadFrame addr (timedFrame opc tOn tOff)).complete else s.raise .badLedOp

/-! ### The request interface -/

/-- The host's event is taken: its place in the list is the host's (R21). -/
def State.setHost (rest : List HostEvent) (s : State) : State := { s with host := rest }

/-- Reset: every register at its reset value, nothing kept, and a request in progress discarded (R200, R203). The host's
list is not the ECB's to reset. -/
def State.resetRegisters (s : State) : State := State.reset.setHost s.host

end Sys2Proof.Machine
end

