-- ==== Sys2Proof/Machine/Classifier.lean ====
section
/-! DEFINITION. The classifier unit's requests (spec 42_classifier.md R160, R163). -/

namespace Sys2Proof.Machine

open Sys2Proof

/-- CLS_SETTH (R160): stored as given, no range or order checked (R161). -/
def execClsSetth (low med high : Byte) (s : State) : Host.Outcome State Fault Refusal :=
  .next (s.loadThresholds low med high).complete

/-- CLS_CLASSIFY (R163): with VALID = 0 nothing is checked and nothing consumed (R164); otherwise NOT_CONFIG comes before
USAGE_NAN (60_exceptions.md R183), and then the usage is classified. -/
def execClsClassify (valid : Bool) (usage : DWord) (s : State) : Host.Outcome State Fault Refusal :=
  if valid = false then .next s.skipVisual.complete
  else if s.thValid = false then .next (s.raise .notConfig)
  else if isNaN usage then .next (s.raise .usageNan)
  else .next (s.loadVisual (classify usage s.thLow s.thMed s.thHigh)).complete

end Sys2Proof.Machine
end

