-- ==== Sys2Proof/Machine/Counter.lean ====
section
/-! DEFINITION. The counter unit's requests (spec 41_counter.md R140, R142). -/

namespace Sys2Proof.Machine

open Sys2Proof

/-- CTR_INIT (R140): a fresh baseline has no reading yet, so the reading is cleared. -/
def execCtrInit (rx tx : DWord) (s : State) : Host.Outcome State Fault Refusal :=
  .next ((s.loadBaseline rx tx).setBaseValid.loadReading 0 0 false false false).complete

/-- CTR_SAMPLE (R142): the deltas and wrap flags against the baseline from before this request, then the new baseline,
whatever SHORT is (R145). NOT_INIT without a baseline (R146). -/
def execCtrSample (short : Bool) (rx tx : DWord) (s : State) : Host.Outcome State Fault Refusal :=
  if s.baseValid then
    .next ((s.loadReading (wdelta rx s.baseRx) (wdelta tx s.baseTx) (deltaValidOf short) (wrapFlag rx s.baseRx)
      (wrapFlag tx s.baseTx)).loadBaseline rx tx).complete
  else .next (s.raise .notInit)

end Sys2Proof.Machine
end

