-- ==== Sys2Proof/Machine/Framer.lean ====
section
/-! DEFINITION. The framer unit's requests (spec 40_framer.md R102, R111, R112, R114) and the five LED commands they
build (R106 to R110). -/

namespace Sys2Proof.Machine

open Sys2Proof

/-- FR_BUILD (R102): BAD_LED_OP for a reserved LED opcode, and the parameters copied verbatim otherwise. -/
def execFrBuild (addr opc p0 p1 p2 p3 : Byte) (s : State) : Host.Outcome State Fault Refusal :=
  .next (s.buildFrame addr opc p0 p1 p2 p3)

/-- FR_BUILD_T (R111): BAD_LED_OP for any LED opcode but BLINK's and BREATH's. -/
def execFrBuildT (addr opc : Byte) (tOn tOff : Half) (s : State) : Host.Outcome State Fault Refusal :=
  .next (s.buildTimedFrame addr opc tOn tOff)

/-- FR_VERIFY (R112): a failed verification is a result, not a fault. -/
def execFrVerify (rlen : Byte) (b : Frame) (s : State) : Host.Outcome State Fault Refusal :=
  .next (s.loadVerdict rlen b).complete

/-- FR_STATUS (R114): an unavailable snapshot is a result, not a fault. -/
def execFrStatus (rlen : Byte) (b : Frame) (s : State) : Host.Outcome State Fault Refusal :=
  .next ((s.loadVerdict rlen b).loadSnapshot (Snapshot.decode rlen b)).complete

/-- BRIGHTNESS (R106): FR_BUILD's frame with LED opcode 0x01 and p0 = level. -/
def execBrightness (addr level : Byte) (s : State) : Host.Outcome State Fault Refusal :=
  .next (s.buildFrame addr ledBrightness level 0 0 0)

/-- RGB (R107): FR_BUILD's frame with LED opcode 0x02 and p0, p1, p2 = r, g, b. -/
def execRgb (addr r g b : Byte) (s : State) : Host.Outcome State Fault Refusal :=
  .next (s.buildFrame addr ledRgb r g b 0)

/-- ONOFF (R108): FR_BUILD's frame with LED opcode 0x03 and p0 = 1 for on, 0 for off. -/
def execOnoff (addr : Byte) (on : Bool) (s : State) : Host.Outcome State Fault Refusal :=
  .next (s.buildFrame addr ledOnoff (flagByte on) 0 0 0)

/-- BLINK (R109): FR_BUILD_T's frame with LED opcode 0x04. -/
def execBlink (addr : Byte) (tOn tOff : Half) (s : State) : Host.Outcome State Fault Refusal :=
  .next (s.buildTimedFrame addr ledBlink tOn tOff)

/-- BREATH (R110): FR_BUILD_T's frame with LED opcode 0x05. -/
def execBreath (addr : Byte) (tOn tOff : Half) (s : State) : Host.Outcome State Fault Refusal :=
  .next (s.buildTimedFrame addr ledBreath tOn tOff)

end Sys2Proof.Machine
end

