-- ==== Sys2Proof/Machine/Interface.lean ====
section
/-! DEFINITION. The interface requests NOP and RD (spec 40_framer.md R100, R101). -/

namespace Sys2Proof.Machine

open Sys2Proof

/-- NOP: STATUS is 0 and nothing else changes (R100). -/
def execNop (s : State) : Host.Outcome State Fault Refusal :=
  .next s.complete

/-- RD: the register's value from before the request goes to RDATA; a reserved number is BAD_REG (R101, R77). -/
def execRd (regnum : Byte) (s : State) : Host.Outcome State Fault Refusal :=
  match regOf regnum with
  | some r => .next (s.loadRData (s.read r)).complete
  | none => .next (s.raise .badReg)

end Sys2Proof.Machine
end

