-- ==== Sys2Proof/Machine/Dispatch.lean ====
section
/-! DEFINITION. The dispatcher: one arm per instruction. -/

namespace Sys2Proof.Machine

open Sys2Proof

/-- The meaning of an instruction, from the state in which the host has issued it. -/
def exec (i : Instr) (s : State) : Host.Outcome State Fault Refusal :=
  match i with
  | .nop => Sys2Proof.Machine.execNop s
  | .rd regnum => Sys2Proof.Machine.execRd regnum s
  | .frBuild addr opc p0 p1 p2 p3 => Sys2Proof.Machine.execFrBuild addr opc p0 p1 p2 p3 s
  | .frBuildT addr opc tOn tOff => Sys2Proof.Machine.execFrBuildT addr opc tOn tOff s
  | .frVerify rlen b => Sys2Proof.Machine.execFrVerify rlen b s
  | .frStatus rlen b => Sys2Proof.Machine.execFrStatus rlen b s
  | .ctrInit rx tx => Sys2Proof.Machine.execCtrInit rx tx s
  | .ctrSample short rx tx => Sys2Proof.Machine.execCtrSample short rx tx s
  | .clsSetth low med high => Sys2Proof.Machine.execClsSetth low med high s
  | .clsClassify valid usage => Sys2Proof.Machine.execClsClassify valid usage s
  | .brightness addr level => Sys2Proof.Machine.execBrightness addr level s
  | .rgb addr r g b => Sys2Proof.Machine.execRgb addr r g b s
  | .onoff addr on => Sys2Proof.Machine.execOnoff addr on s
  | .blink addr tOn tOff => Sys2Proof.Machine.execBlink addr tOn tOff s
  | .breath addr tOn tOff => Sys2Proof.Machine.execBreath addr tOn tOff s

end Sys2Proof.Machine
end

