-- ==== Sys2Proof/Machine/Fetch.lean ====
section
/-! DEFINITION. What the request interface does with one request packet, before a request's own rule runs. -/

namespace Sys2Proof.Machine

open Sys2Proof

/-- A request packet: the shared checks, a packet they refuse raising its fault (40_framer.md preamble, 60_exceptions.md
R181, R183), and otherwise the decoded instruction. -/
def runRequest (req : List Byte) (s : State) : Host.Outcome State Fault Refusal :=
  match decode req with
  | .error e => .next (s.raise e.faultCode)
  | .ok i => exec i s

/-- One event of the host: a request, or a reset, which discards the request it comes in (70_reset_and_hazards.md R200). -/
def runEvent (e : HostEvent) (s : State) : Host.Outcome State Fault Refusal :=
  match e with
  | .request req => runRequest req s
  | .reset _ => .next s.resetRegisters

/-- One step: the host's next event, taken off its list. With none, the ECB holds its registers (60_exceptions.md R192,
70_reset_and_hazards.md R202). -/
def stepHost (s : State) : Host.Outcome State Fault Refusal :=
  match s.host with
  | [] => .next s
  | e :: rest => runEvent e (s.setHost rest)

end Sys2Proof.Machine
end

