-- ==== Sys2Proof/Machine/Step.lean ====
section
/-! DEFINITION. The step of the machine, and the host's way to hand it one table word. -/

namespace Sys2Proof.Machine

open Sys2Proof

/-- One atomic step (spec 20_memory.md R56, R59). -/
def step (s : State) : Host.Outcome State Fault Refusal := stepHost s

/-- The state in which the host's next request is the table word's packet (log entries 1 and 6). -/
def State.withFetchWord (s : State) (nbits w : Nat) : State :=
  s.setHost (.request (tablePacket nbits w) :: s.host)

end Sys2Proof.Machine
end

