-- ==== Sys2Proof/Machine/Assembler.lean ====
section
/-! DEFINITION. The assembler syntax and the pseudo-requests of spec 30_encoding.md R85 and R86: from a line of text to an
instruction, and so by `encode` to its packet. What R85 leaves open is in log entry 15. -/

namespace Sys2Proof

/-- A character that separates. -/
def isBlankChar (c : Char) : Bool := c == ' ' || c == '\t' || c == '\r'

/-- A text without blanks at its ends. -/
def trimBlanks (cs : List Char) : List Char :=
  ((cs.dropWhile isBlankChar).reverse.dropWhile isBlankChar).reverse

/-- A `;` starts a comment (R85). -/
def dropComment (cs : List Char) : List Char := cs.takeWhile (· != ';')

/-- The texts between commas. -/
def splitCommas : List Char → List (List Char)
  | [] => [[]]
  | c :: cs =>
    match splitCommas cs with
    | [] => [[c]]
    | w :: ws => if c == ',' then [] :: w :: ws else (c :: w) :: ws

/-- The operands of a line after its mnemonic. -/
def operandFields (cs : List Char) : List (List Char) :=
  if trimBlanks cs = [] then [] else (splitCommas cs).map trimBlanks

/-- The value of a decimal digit. -/
def decDigit (c : Char) : Option Nat :=
  if '0' ≤ c ∧ c ≤ '9' then some (c.toNat - '0'.toNat) else none

/-- The value of a hexadecimal digit. -/
def hexDigit (c : Char) : Option Nat :=
  if '0' ≤ c ∧ c ≤ '9' then some (c.toNat - '0'.toNat)
  else if 'a' ≤ c ∧ c ≤ 'f' then some (c.toNat - 'a'.toNat + 10)
  else if 'A' ≤ c ∧ c ≤ 'F' then some (c.toNat - 'A'.toNat + 10)
  else none

/-- The number a text of digits writes; none for an empty text. -/
def digitsValue (base : Nat) (digit : Char → Option Nat) (cs : List Char) : Option Nat :=
  if cs = [] then none
  else cs.foldl (fun acc c => acc.bind fun n => (digit c).map fun d => n * base + d) (some 0)

/-- A decimal or `0x` hexadecimal integer (R85). -/
def parseInteger : List Char → Option Nat
  | '0' :: 'x' :: cs => digitsValue 16 hexDigit cs
  | cs => digitsValue 10 decDigit cs

/-- An integer operand of a field of `w` bits; a value that does not fit is refused (R85). -/
def parseField (w : Nat) (cs : List Char) : Option (BitVec w) :=
  match parseInteger cs with
  | some n => if n < 2 ^ w then some (BitVec.ofNat w n) else none
  | none => none

/-- The `short` and `valid` operands: the flag, 0 or 1 (R74, R85, log entry 15). -/
def parseFlag (cs : List Char) : Option Bool :=
  match parseInteger cs with
  | some 0 => some false
  | some 1 => some true
  | _ => none

/-- `floor (log2 (num / den))` for positive `num` and `den`. -/
def floorLog2Ratio (num den : Nat) : Int :=
  let e : Int := (Nat.log2 num : Int) - (Nat.log2 den : Int)
  if num * 2 ^ (-e).toNat < den * 2 ^ e.toNat then e - 1 else e

/-- The bits of the binary64 value nearest to `num / den`, ties to even (R85; UNVERIFIED by the spec's own
mark, log entry 10). -/
def nearestBinary64 (num den : Nat) : Nat :=
  if num = 0 then 0
  else
    let e : Int := max (floorLog2Ratio num den) (-1022)
    let shift : Int := 52 - e
    let n := num * 2 ^ shift.toNat
    let d := den * 2 ^ (-shift).toNat
    let q := n / d
    let r := n % d
    let q' := if d < 2 * r ∨ (2 * r = d ∧ q % 2 = 1) then q + 1 else q
    min ((e + 1022).toNat * 2 ^ 52 + q') (0x7FF * 2 ^ 52)

/-- A decimal floating literal: digits, a `.`, digits (R85). -/
def parseDecimal (cs : List Char) : Option DWord :=
  let whole := cs.takeWhile (· != '.')
  match cs.dropWhile (· != '.') with
  | [] => none
  | _ :: part =>
    match digitsValue 10 decDigit whole, digitsValue 10 decDigit part with
    | some _, some _ =>
      (digitsValue 10 decDigit (whole ++ part)).map fun n => BitVec.ofNat 64 (nearestBinary64 n (10 ^ part.length))
    | _, _ => none

/-- The usage operand: `raw(0x` and sixteen hexadecimal digits `)`, `inf`, `-inf`, `nan`, or a decimal literal (R85). -/
def parseUsage (cs : List Char) : Option DWord :=
  match cs with
  | ['i', 'n', 'f'] => some 0x7FF0000000000000
  | ['-', 'i', 'n', 'f'] => some 0xFFF0000000000000
  | ['n', 'a', 'n'] => some 0x7FF8000000000000
  | 'r' :: 'a' :: 'w' :: '(' :: '0' :: 'x' :: rest =>
    if rest.length = 17 ∧ rest.getLast? = some ')' then (digitsValue 16 hexDigit rest.dropLast).map (BitVec.ofNat 64)
    else none
  | '-' :: rest => (parseDecimal rest).map fun w => w ||| 0x8000000000000000
  | _ => parseDecimal cs

/-- The frame of eleven byte operands. -/
def parseFrame (cs : List (List Char)) : Option Frame :=
  match cs.mapM (parseField 8) with
  | some bs => if bs.length = 11 then some (frameAt bs 0) else none
  | none => none

/-- A mnemonic and its operands, in the order of R72 for a request and of R86 for a pseudo-request. -/
def assembleFields (mnemonic : String) (args : List (List Char)) : Option Instr :=
  match mnemonic, args with
  | "NOP", [] => some .nop
  | "RD", [n] => (parseField 8 n).map .rd
  | "FR_BUILD", [a, o, p0, p1, p2, p3] => do
    pure (.frBuild (← parseField 8 a) (← parseField 8 o) (← parseField 8 p0) (← parseField 8 p1) (← parseField 8 p2)
      (← parseField 8 p3))
  | "FR_BUILD_T", [a, o, tOn, tOff] => do
    pure (.frBuildT (← parseField 8 a) (← parseField 8 o) (← parseField 16 tOn) (← parseField 16 tOff))
  | "FR_VERIFY", rlen :: bs => do pure (.frVerify (← parseField 8 rlen) (← parseFrame bs))
  | "FR_STATUS", rlen :: bs => do pure (.frStatus (← parseField 8 rlen) (← parseFrame bs))
  | "GET_STATUS", rlen :: bs => do pure (.frStatus (← parseField 8 rlen) (← parseFrame bs))
  | "CTR_INIT", [rx, tx] => do pure (.ctrInit (← parseField 64 rx) (← parseField 64 tx))
  | "CTR_SAMPLE", [short, rx, tx] => do
    pure (.ctrSample (← parseFlag short) (← parseField 64 rx) (← parseField 64 tx))
  | "CLS_SETTH", [l, m, h] => do pure (.clsSetth (← parseField 8 l) (← parseField 8 m) (← parseField 8 h))
  | "CLS_CLASSIFY", [valid, usage] => do pure (.clsClassify (← parseFlag valid) (← parseUsage usage))
  | "LED_BRIGHT", [a, level] => do pure (.brightness (← parseField 8 a) (← parseField 8 level))
  | "LED_RGB", [a, r, g, b] => do
    pure (.rgb (← parseField 8 a) (← parseField 8 r) (← parseField 8 g) (← parseField 8 b))
  | "LED_ON", [a] => (parseField 8 a).map fun addr => .onoff addr true
  | "LED_OFF", [a] => (parseField 8 a).map fun addr => .onoff addr false
  | "LED_BLINK", [a, tOn, tOff] => do
    pure (.blink (← parseField 8 a) (← parseField 16 tOn) (← parseField 16 tOff))
  | "LED_BREATH", [a, tOn, tOff] => do
    pure (.breath (← parseField 8 a) (← parseField 16 tOn) (← parseField 16 tOff))
  | _, _ => none

/-- The instruction of a line's characters; none for a line R85 gives no request to. -/
def assembleChars (cs : List Char) : Option Instr :=
  let line := trimBlanks (dropComment cs)
  assembleFields (String.ofList (line.takeWhile fun c => !isBlankChar c)) (operandFields (line.dropWhile fun c => !isBlankChar c))

/-- The instruction of a line (R85): its packet is `encode` of it. -/
def assemble (line : String) : Option Instr := assembleChars line.toList

end Sys2Proof
end

