-- ==== Sys2Proof/Config.lean ====
section
/-! DEFINITION. What lies outside the block and no source gives: the bus addresses (spec 00_scope.md R10,
20_memory.md R51, 92_eei_decisions.md D7). They are constants with no body: nothing can be proved of a value. -/

namespace Sys2Proof

/-- The LEDs the source names, and room for the ones its "…" leaves unnamed: 91_not_in_source.md N3 says that a
reader must not assume exactly four. There is room for 256 identifiers, as many as a byte tells apart: DESIGN CHOICE, so
that the mapping of R51 to address bytes can be 1:1 (log entry 9). -/
inductive LedId where
  | power
  | netdev
  | disk1
  | disk2
  | other (n : Fin 252)
  deriving DecidableEq, Repr

/-- LED_ADDR (R10): the bus address byte a command frame for this LED is sent to. OPEN parameter, log entry 9.
Whether two LEDs can share an address is left open too: R51 quotes a mapping "1:1", D7 gives any function, and here neither
can be proved (DESIGN CHOICE, log entry 9). -/
opaque Config.ledAddr : LedId → Byte

/-- LED_STATUS_ADDR (R10): the bus address this LED's 11-byte status frame is read from. OPEN parameter, log entry 9;
that two LEDs' addresses differ, or that they equal the command addresses, is not assumed. -/
opaque Config.ledStatusAddr : LedId → Byte

/-- ACK_ADDR (R10): the bus address of the write-ack register. OPEN parameter, log entry 9. -/
opaque Config.ackAddr : Byte

/-- The source's minimum interval in milliseconds, which the host measures (R144, R208). -/
def Config.minIntervalMs : Nat := 100

end Sys2Proof
end

