-- ==== Sys2Proof/Machine/HostSide.lean ====
section
/-! DEFINITION. What the host does around the ECB, where a rule of the spec says it: which address it sends a command to,
what it sends on the bus, and how it finds the two flags it passes. The ECB performs none of this. -/

namespace Sys2Proof.Machine

open Sys2Proof

/-- The bus block write that sends the built frame: ADDR is the bus address, the eleven CFRAME bytes are the data,
CFRAME[0] first (40_framer.md R104). The ECB issues no bus transaction; the host does, from what it has read. -/
def State.blockWrite (s : State) : Byte × List Byte := (s.addr, s.cframe.toList)

/-- `set brightness` of an LED: the pseudo-request with the LED's bus address (30_encoding.md R86, 20_memory.md R51). -/
def hostBrightness (id : LedId) (level : Byte) : Instr := .brightness (Config.ledAddr id) level

/-- `set colour` of an LED (R86, R51). -/
def hostRgb (id : LedId) (r g b : Byte) : Instr := .rgb (Config.ledAddr id) r g b

/-- Turning an LED on or off (R86, R51). -/
def hostOnoff (id : LedId) (on : Bool) : Instr := .onoff (Config.ledAddr id) on

/-- `set_blink` (R86, R51). -/
def hostBlink (id : LedId) (tOn tOff : Half) : Instr := .blink (Config.ledAddr id) tOn tOff

/-- `set_breath` (R86, R51). -/
def hostBreath (id : LedId) (tOn tOff : Half) : Instr := .breath (Config.ledAddr id) tOn tOff

/-- SHORT: the host sets it when the time since the baseline is below the minimum interval (41_counter.md R144). The
elapsed time is a whole number of milliseconds: DESIGN CHOICE, for the spec does not state the clock's resolution
(91_not_in_source.md N16; log entry 19). -/
def hostShort (elapsedMs : Nat) : Bool := decide (elapsedMs < Config.minIntervalMs)

/-- VALID of CLS_CLASSIFY: the usage comes from a valid reading (30_encoding.md R74). -/
def State.hostValid (s : State) : Bool := s.deltaValid

/-- The premise "no fault recorded since reset" (60_exceptions.md R182). -/
def State.noFault (s : State) : Bool := s.fault == 0

end Sys2Proof.Machine
end

