-- ==== Sys2Proof/Safety.lean ====
section
/-! DEFINITION. The terms claims about the ECB are made in: the sum of a frame's payload as a number, the real value of a
binary64 pattern, what each request reads and writes, and the legal states. -/

namespace Sys2Proof

/-- The big-endian value of a run of bytes: each byte weighs 256 to the number of bytes after it (00_scope.md R12). -/
def bigEndian : List Byte → Nat
  | [] => 0
  | b :: rest => b.toNat * 256 ^ rest.length + bigEndian rest

/-- The exact sum of frame bytes 0 to 8 (40_framer.md R103, before the reduction modulo 2^16). -/
def sum9 (f : Frame) : Nat :=
  f.b0.toNat + f.b1.toNat + f.b2.toNat + f.b3.toNat + f.b4.toNat + f.b5.toNat + f.b6.toNat + f.b7.toNat + f.b8.toNat

/-- The real value of a finite binary64 pattern, as the standard's formula gives it (00_scope.md R14): with sign bit 63,
exponent bits 62:52 and fraction bits 51:0. -/
def ieeeValue (w : DWord) : ℚ :=
  (if w.getLsbD 63 then -1 else 1) *
    (if (w.extractLsb' 52 11).toNat = 0 then ((w.extractLsb' 0 52).toNat : ℚ) / 2 ^ 52 * 2 ^ (-1022 : ℤ)
     else (1 + ((w.extractLsb' 0 52).toNat : ℚ) / 2 ^ 52) * 2 ^ (((w.extractLsb' 52 11).toNat : ℤ) - 1023))

/-- `f64(w) < t` as R14 says it, for a pattern that is not a NaN: minus infinity is below every integer, plus infinity
above, and two finite values compare as real numbers. -/
abbrev f64Below (w : DWord) (t : Byte) : Prop :=
  if (w.extractLsb' 52 11).toNat = 0x7FF then w.getLsbD 63 = true else ieeeValue w < (t.toNat : ℚ)

/-- The band of R162, said with `f64Below`. -/
def bandOf (u : DWord) (l m h : Byte) : VisualState :=
  if f64Below u l then .off else if f64Below u m then .low else if f64Below u h then .medium else .high

namespace Machine

/-- The registers FR_BUILD and FR_BUILD_T write, STATUS apart (20_memory.md R57). -/
def frameRegs : List Reg :=
  [.addr, .csum, .cframe 0, .cframe 1, .cframe 2, .cframe 3, .cframe 4, .cframe 5, .cframe 6, .cframe 7, .cframe 8,
   .cframe 9, .cframe 10]

/-- The ST_* registers (R57). -/
def snapshotRegs : List Reg :=
  [.stAvail, .stReason, .stMode, .stBright, .stR, .stG, .stB, .stThigh, .stTlow, .stTon, .stToff, .stTanom]

/-- The "writes" column of R57 for a completing request, over the numbered registers. RD's RDATA has no number. -/
def writesOf : Instr → List Reg
  | .nop => [.status]
  | .rd _ => [.status]
  | .frBuild _ _ _ _ _ _ => .status :: frameRegs
  | .frBuildT _ _ _ _ => .status :: frameRegs
  | .frVerify _ _ => [.status, .vok, .vsum]
  | .frStatus _ _ => [.status, .vok, .vsum] ++ snapshotRegs
  | .ctrInit _ _ =>
    [.status, .baseRx, .baseTx, .baseValid, .deltaRx, .deltaTx, .deltaValid, .wrapRx, .wrapTx]
  | .ctrSample _ _ _ => [.status, .baseRx, .baseTx, .deltaRx, .deltaTx, .deltaValid, .wrapRx, .wrapTx]
  | .clsSetth _ _ _ => [.status, .thLow, .thMed, .thHigh, .thValid]
  | .clsClassify valid _ => if valid then [.status, .vstate, .vsUpd] else [.status, .vsUpd]
  | .brightness _ _ => .status :: frameRegs
  | .rgb _ _ _ _ => .status :: frameRegs
  | .onoff _ _ => .status :: frameRegs
  | .blink _ _ _ => .status :: frameRegs
  | .breath _ _ _ => .status :: frameRegs

/-- The "reads" column of R57, over the numbered registers. -/
def readsOf : Instr → List Reg
  | .nop => []
  | .rd regnum => (regOf regnum).toList
  | .frBuild _ _ _ _ _ _ => []
  | .frBuildT _ _ _ _ => []
  | .frVerify _ _ => []
  | .frStatus _ _ => []
  | .ctrInit _ _ => []
  | .ctrSample _ _ _ => [.baseValid, .baseRx, .baseTx]
  | .clsSetth _ _ _ => []
  | .clsClassify _ _ => [.thValid, .thLow, .thMed, .thHigh]
  | .brightness _ _ => []
  | .rgb _ _ _ _ => []
  | .onoff _ _ => []
  | .blink _ _ _ => []
  | .breath _ _ _ => []

/-- CFRAME and CSUM hold what reset leaves, or a whole frame a build left (10_state.md R27, R28). -/
def frameLegal (s : State) : Prop :=
  (s.cframe = Frame.zero ∧ s.csum = 0) ∨
    (s.cframe.b0 = 0xA0 ∧ s.cframe.b1 = 0x01 ∧ s.cframe.b2 = 0x00 ∧ s.cframe.b3 = 0x00 ∧
      1 ≤ s.cframe.b4.toNat ∧ s.cframe.b4.toNat ≤ 5 ∧
      s.csum.toNat = sum9 s.cframe ∧ s.csum.toNat = bigEndian [s.cframe.b9, s.cframe.b10] ∧
      0x00A2 ≤ s.csum.toNat ∧ s.csum.toNat ≤ 0x04A2)

/-- No partial snapshot, and the derived time fields of a whole one (R31 to R36, 40_framer.md R116, R117). -/
def snapshotLegal (p : Snapshot) : Prop :=
  if p.avail then
    p.reason = .none ∧ p.tOn = p.tLow ∧ p.tOff = p.tHigh - p.tLow ∧ (p.tAnom = true ↔ p.tHigh.toNat < p.tLow.toNat)
  else
    p.mode = .off ∧ p.bright = 0 ∧ p.r = 0 ∧ p.g = 0 ∧ p.b = 0 ∧ p.tHigh = 0 ∧ p.tLow = 0 ∧ p.tOn = 0 ∧ p.tOff = 0 ∧
      p.tAnom = false

/-- The legal states: what the register rules of 10_state.md say of every state a run can reach. -/
structure State.Inv (s : State) : Prop where
  /-- R23. -/
  status_legal : s.status.toNat ≤ 8
  /-- R23, R24: a fault code in STATUS has its FAULT bit set. -/
  status_recorded : s.status ≠ 0 → s.fault.getLsbD (s.status.toNat - 1) = true
  /-- R27, R28. -/
  frame_legal : frameLegal s
  /-- R30. -/
  vsum_legal : s.vsum.toNat ≤ 2295
  /-- R29, 40_framer.md R113: a zero sum is never accepted. -/
  vok_nonzero : s.vok = true → s.vsum ≠ 0
  /-- R31 to R36. -/
  snapshot_legal : snapshotLegal s.snap
  /-- R37 to R41: without a baseline the counter unit is as reset left it. -/
  counter_unset : s.baseValid = false →
    s.baseRx = 0 ∧ s.baseTx = 0 ∧ s.deltaRx = 0 ∧ s.deltaTx = 0 ∧ s.deltaValid = false ∧ s.wrapRx = false ∧ s.wrapTx = false
  /-- 41_counter.md R147: a valid delta across a wrap is at most U64_MAX - 1. -/
  wrap_rx_range : s.deltaValid = true → s.wrapRx = true → s.deltaRx.toNat ≤ 2 ^ 64 - 2
  /-- R147, the other counter. -/
  wrap_tx_range : s.deltaValid = true → s.wrapTx = true → s.deltaTx.toNat ≤ 2 ^ 64 - 2
  /-- R42 to R45: without thresholds the classifier unit is as reset left it. -/
  classifier_unset : s.thValid = false →
    s.thLow = 0 ∧ s.thMed = 0 ∧ s.thHigh = 0 ∧ s.vstate = .off ∧ s.vsUpd = false

end Machine

end Sys2Proof
end

