-- ==== Sys2Proof/Certificates/Slice0/Obligations.lean ====
section
/-! DEFINITION. The statements for the provers. Each docstring names the rules of spec/ it formalises; OBLIGATIONS.json
lists them. A result is given as the next state in full, so it is also the request's frame: every register and the host's
list are unchanged but for the fields named. -/

open Sys2Proof Sys2Proof.Machine

/-! ### The request interface -/

/-- R100. NOP clears STATUS and touches nothing else; no other instruction does just that; one byte or BAD_LEN. -/
def Obligations.NopClearsStatusOnly : Prop :=
  (∀ s : State, exec .nop s = .next { s with status := 0 }) ∧
  (∀ i : Instr, (∀ s : State, exec i s = .next { s with status := 0 }) → i = .nop) ∧
  (∀ (s : State) (rest : List HostEvent), s.host = .request [0x00] :: rest →
    step s = .next { s with host := rest, status := 0 }) ∧
  (∀ (s : State) (rest : List HostEvent) (body : List Byte), s.host = .request (0x00 :: body) :: rest →
    body.length ≠ 0 → step s = .next { s with host := rest, status := 2, fault := s.fault ||| 0x02 })

/-- R101. RD copies a listed register's value from before the request, and faults BAD_REG on any other number with RDATA
unchanged. What is listed, and its value, is `RegisterMapReadsAllRegisters`. -/
def Obligations.RdCopiesOldValueOrFaults : Prop :=
  (∀ (s : State) (n : Byte) (r : Reg), regOf n = some r →
    exec (.rd n) s = .next { s with rdata := s.read r, status := 0 }) ∧
  (∀ (s : State) (n : Byte), regOf n = none →
    exec (.rd n) s = .next { s with status := 7, fault := s.fault ||| 0x40 }) ∧
  (∀ s : State, exec (.rd 0x00) s = .next { s with rdata := s.status.setWidth 64, status := 0 }) ∧
  (∀ s : State, exec (.rd 0x01) s = .next { s with rdata := s.fault.setWidth 64, status := 0 }) ∧
  (∀ (s : State) (rest : List HostEvent) (n : Byte), s.host = .request [0x01, n] :: rest →
    step s = exec (.rd n) { s with host := rest }) ∧
  (∀ (s : State) (rest : List HostEvent) (body : List Byte), s.host = .request (0x01 :: body) :: rest →
    body.length ≠ 1 → step s = .next { s with host := rest, status := 2, fault := s.fault ||| 0x02 })

/-- R46, R77. RD of each listed number gives that register zero-extended, which is 0 after reset; every other number is
reserved and faults BAD_REG. -/
def Obligations.RegisterMapReadsAllRegisters : Prop :=
  (∀ (s : State) (n : Byte) (v : DWord),
    (n, v) ∈
      [(0x00#8, s.status.setWidth 64), (0x01#8, s.fault.setWidth 64), (0x10#8, s.addr.setWidth 64),
       (0x11#8, s.csum.setWidth 64), (0x12#8, if s.vok then 1 else 0), (0x13#8, s.vsum.setWidth 64)] ++
      [(0x20#8, s.cframe.b0.setWidth 64), (0x21#8, s.cframe.b1.setWidth 64), (0x22#8, s.cframe.b2.setWidth 64),
       (0x23#8, s.cframe.b3.setWidth 64), (0x24#8, s.cframe.b4.setWidth 64), (0x25#8, s.cframe.b5.setWidth 64),
       (0x26#8, s.cframe.b6.setWidth 64), (0x27#8, s.cframe.b7.setWidth 64), (0x28#8, s.cframe.b8.setWidth 64),
       (0x29#8, s.cframe.b9.setWidth 64), (0x2A#8, s.cframe.b10.setWidth 64)] ++
      [(0x30#8, if s.snap.avail then 1 else 0),
       (0x31#8, match s.snap.reason with | .none => 0 | .length => 1 | .checksum => 2 | .mode => 3),
       (0x32#8, match s.snap.mode with | .off => 0 | .on => 1 | .blink => 2 | .breath => 3),
       (0x33#8, s.snap.bright.setWidth 64), (0x34#8, s.snap.r.setWidth 64), (0x35#8, s.snap.g.setWidth 64),
       (0x36#8, s.snap.b.setWidth 64), (0x37#8, s.snap.tHigh.setWidth 64), (0x38#8, s.snap.tLow.setWidth 64),
       (0x39#8, s.snap.tOn.setWidth 64), (0x3A#8, s.snap.tOff.setWidth 64), (0x3B#8, if s.snap.tAnom then 1 else 0)] ++
      [(0x40#8, s.baseRx), (0x41#8, s.baseTx), (0x42#8, if s.baseValid then 1 else 0), (0x43#8, s.deltaRx),
       (0x44#8, s.deltaTx), (0x45#8, if s.deltaValid then 1 else 0), (0x46#8, if s.wrapRx then 1 else 0),
       (0x47#8, if s.wrapTx then 1 else 0)] ++
      [(0x50#8, s.thLow.setWidth 64), (0x51#8, s.thMed.setWidth 64), (0x52#8, s.thHigh.setWidth 64),
       (0x53#8, if s.thValid then 1 else 0),
       (0x54#8, match s.vstate with | .off => 0 | .low => 1 | .medium => 2 | .high => 3),
       (0x55#8, if s.vsUpd then 1 else 0)] →
    exec (.rd n) s = .next { s with rdata := v, status := 0 } ∧
    exec (.rd n) State.reset = .next { State.reset with rdata := 0 }) ∧
  (∀ (s : State) (n : Byte),
    ¬ (n.toNat ≤ 0x01 ∨ (0x10 ≤ n.toNat ∧ n.toNat ≤ 0x13) ∨ (0x20 ≤ n.toNat ∧ n.toNat ≤ 0x2A) ∨
       (0x30 ≤ n.toNat ∧ n.toNat ≤ 0x3B) ∨ (0x40 ≤ n.toNat ∧ n.toNat ≤ 0x47) ∨ (0x50 ≤ n.toNat ∧ n.toNat ≤ 0x55)) →
    exec (.rd n) s = .next { s with status := 7, fault := s.fault ||| 0x40 })

/-- R183, with R73 and R76. The shared checks come in the rule's order, each raising its own fault and none other,
before any rule of a request: no bytes; a reserved op byte, at any length; a wrong length; a reserved flags bit. Last,
NOT_CONFIG comes before USAGE_NAN. -/
def Obligations.RefusedRequestsInPriorityOrder : Prop :=
  (∀ (s : State) (rest : List HostEvent), s.host = .request [] :: rest →
    step s = .next { s with host := rest, status := 2, fault := s.fault ||| 0x02 }) ∧
  (∀ (s : State) (rest : List HostEvent) (op : Byte) (body : List Byte), s.host = .request (op :: body) :: rest →
    ((0x02 ≤ op.toNat ∧ op.toNat ≤ 0x0F) ∨ (0x14 ≤ op.toNat ∧ op.toNat ≤ 0x1F) ∨
      (0x22 ≤ op.toNat ∧ op.toNat ≤ 0x2F) ∨ 0x32 ≤ op.toNat) →
    step s = .next { s with host := rest, status := 1, fault := s.fault ||| 0x01 }) ∧
  (∀ (s : State) (rest : List HostEvent) (op : Byte) (n : Nat) (body : List Byte),
    s.host = .request (op :: body) :: rest →
    (op, n) ∈ [(0x00#8, 1), (0x01#8, 2), (0x10#8, 7), (0x11#8, 7), (0x12#8, 13), (0x13#8, 13), (0x20#8, 17),
      (0x21#8, 18), (0x30#8, 4), (0x31#8, 10)] →
    body.length + 1 ≠ n →
    step s = .next { s with host := rest, status := 2, fault := s.fault ||| 0x02 }) ∧
  (∀ (s : State) (rest : List HostEvent) (flags : Byte) (body : List Byte),
    s.host = .request (0x21 :: flags :: body) :: rest → body.length = 16 → flags.extractLsb' 1 7 ≠ 0 →
    step s = .next { s with host := rest, status := 8, fault := s.fault ||| 0x80 }) ∧
  (∀ (s : State) (rest : List HostEvent) (flags : Byte) (body : List Byte),
    s.host = .request (0x31 :: flags :: body) :: rest → body.length = 8 → flags.extractLsb' 1 7 ≠ 0 →
    step s = .next { s with host := rest, status := 8, fault := s.fault ||| 0x80 }) ∧
  (∀ (s : State) (u : DWord), s.thValid = false →
    exec (.clsClassify true u) s = .next { s with status := 5, fault := s.fault ||| 0x10 })

/-- A step runs the decoded instruction on the state in which the host's list has lost its first event, raises the fault
of a packet that decodes to none, answers a reset event with the reset registers, and with no event holds the state. The
host's list is the model's own field (log entries 1, 2 and 3); R21, R192 and R200 are what it stands for. -/
def Obligations.StepRunsTheDecodedRequest : Prop :=
  (∀ (s : State) (req : List Byte) (rest : List HostEvent) (i : Instr), s.host = .request req :: rest →
    decode req = .ok i → step s = exec i { s with host := rest }) ∧
  (∀ (s : State) (req : List Byte) (rest : List HostEvent) (e : DecodeError), s.host = .request req :: rest →
    decode req = .error e →
    step s = .next { s with host := rest, status := e.faultCode.code,
                            fault := s.fault ||| (1#8 <<< (e.faultCode.code.toNat - 1)) }) ∧
  (∀ (s : State) (p : Option (List Byte)) (rest : List HostEvent), s.host = .reset p :: rest →
    step s = .next { State.reset with host := rest }) ∧
  (∀ s : State, s.host = [] → step s = .next s)

/-- What the host sends as the packet of an instruction runs as that instruction, for all fifteen: an LED command's packet
is its pseudo-request's (R86; that it is sent so is the model's reading, log entry 4), and running that is running the
command. -/
def Obligations.StepRunsEveryEncodedInstruction : Prop :=
  ∀ (i : Instr) (s : State) (rest : List HostEvent), s.host = .request (encode i) :: rest →
    step s = exec i { s with host := rest }

/-- A table word runs as the instruction it decodes to, request rows and LED-frame rows alike (log entry 6). -/
def Obligations.TableWordRunsAsItsInstruction : Prop :=
  ∀ (s : State) (nbits w : Nat) (i : Instr), decodeTableWord nbits w = some i →
    step (s.withFetchWord nbits w) = exec i s

/-- Every instruction answers a next state from every state: nothing the spec describes stops the ECB (R186, R188; that the
model's fault type is empty is log entry 12). -/
def Obligations.EveryStepAnswersNext : Prop :=
  (∀ (i : Instr) (s : State), ∃ t, exec i s = .next t) ∧ (∀ s : State, ∃ t, step s = .next t)

/-! ### The framer -/

/-- R102. FR_BUILD of a named LED opcode writes the address, the eleven bytes and the checksum, the parameters
verbatim; of any other it faults BAD_LED_OP and writes nothing else. -/
def Obligations.FrBuildWritesFrameOrFaults : Prop :=
  (∀ (s : State) (addr opc p0 p1 p2 p3 : Byte), 1 ≤ opc.toNat → opc.toNat ≤ 5 →
    let sum : Half := BitVec.ofNat 16 (0xA0 + 0x01 + opc.toNat + p0.toNat + p1.toNat + p2.toNat + p3.toNat)
    sum ≠ 0 ∧
    exec (.frBuild addr opc p0 p1 p2 p3) s =
      .next { s with
        addr := addr, csum := sum, status := 0,
        cframe := ⟨0xA0, 0x01, 0x00, 0x00, opc, p0, p1, p2, p3, sum.extractLsb' 8 8, sum.extractLsb' 0 8⟩ }) ∧
  (∀ (s : State) (addr opc p0 p1 p2 p3 : Byte), opc = 0 ∨ 5 < opc.toNat →
    exec (.frBuild addr opc p0 p1 p2 p3) s = .next { s with status := 3, fault := s.fault ||| 0x04 }) ∧
  (∀ (s : State) (rest : List HostEvent) (addr opc p0 p1 p2 p3 : Byte),
    s.host = .request [0x10, addr, opc, p0, p1, p2, p3] :: rest →
    step s = exec (.frBuild addr opc p0 p1 p2 p3) { s with host := rest }) ∧
  (∀ (s : State) (rest : List HostEvent) (body : List Byte), s.host = .request (0x10 :: body) :: rest →
    body.length ≠ 6 → step s = .next { s with host := rest, status := 2, fault := s.fault ||| 0x02 })

/-- R111. FR_BUILD_T packs t_high = (t_on + t_off) mod 2^16 and t_low = t_on, each high byte first, into a BLINK or BREATH
frame, and faults BAD_LED_OP for every other LED opcode. -/
def Obligations.FrBuildTPacksTimesOrFaults : Prop :=
  (∀ (s : State) (addr opc : Byte) (tOn tOff : Half), opc = 0x04 ∨ opc = 0x05 →
    let tHigh : Half := BitVec.ofNat 16 (tOn.toNat + tOff.toNat)
    let sum : Half := BitVec.ofNat 16
      (0xA0 + 0x01 + opc.toNat + tHigh.toNat / 256 + tHigh.toNat % 256 + tOn.toNat / 256 + tOn.toNat % 256)
    exec (.frBuildT addr opc tOn tOff) s =
      .next { s with
        addr := addr, csum := sum, status := 0,
        cframe := ⟨0xA0, 0x01, 0x00, 0x00, opc, tHigh.extractLsb' 8 8, tHigh.extractLsb' 0 8, tOn.extractLsb' 8 8,
          tOn.extractLsb' 0 8, sum.extractLsb' 8 8, sum.extractLsb' 0 8⟩ }) ∧
  (∀ (s : State) (addr opc : Byte) (tOn tOff : Half), opc ≠ 0x04 → opc ≠ 0x05 →
    exec (.frBuildT addr opc tOn tOff) s = .next { s with status := 3, fault := s.fault ||| 0x04 }) ∧
  (∀ (s : State) (rest : List HostEvent) (addr opc a b c d : Byte),
    s.host = .request [0x11, addr, opc, a, b, c, d] :: rest →
    step s = exec (.frBuildT addr opc (BitVec.ofNat 16 (bigEndian [a, b])) (BitVec.ofNat 16 (bigEndian [c, d])))
      { s with host := rest }) ∧
  (∀ (s : State) (rest : List HostEvent) (body : List Byte), s.host = .request (0x11 :: body) :: rest →
    body.length ≠ 6 → step s = .next { s with host := rest, status := 2, fault := s.fault ||| 0x02 })

/-- R80. LED opcodes 0x00 and 0x06 to 0xFF fault BAD_LED_OP in both builds, and FR_BUILD_T also refuses 0x01 to 0x03. -/
def Obligations.ReservedLedOpcodesFault : Prop :=
  (∀ (s : State) (addr opc p0 p1 p2 p3 : Byte) (tOn tOff : Half), opc = 0x00 ∨ 0x06 ≤ opc.toNat →
    exec (.frBuild addr opc p0 p1 p2 p3) s = .next { s with status := 3, fault := s.fault ||| 0x04 } ∧
    exec (.frBuildT addr opc tOn tOff) s = .next { s with status := 3, fault := s.fault ||| 0x04 }) ∧
  (∀ (s : State) (addr opc : Byte) (tOn tOff : Half), 0x01 ≤ opc.toNat → opc.toNat ≤ 0x03 →
    exec (.frBuildT addr opc tOn tOff) s = .next { s with status := 3, fault := s.fault ||| 0x04 })

/-- R106, R107, R108. BRIGHTNESS, RGB and ONOFF each complete with the frame of FR_BUILD with the rule's opcode and
parameters; FR_BUILD copies any other ONOFF value verbatim. -/
def Obligations.LedParameterCommandsBuildTheirFrames : Prop :=
  (∀ (s : State) (addr level : Byte),
    let sum : Half := BitVec.ofNat 16 (0xA2 + level.toNat)
    exec (.brightness addr level) s = exec (.frBuild addr 0x01 level 0 0 0) s ∧
    exec (.brightness addr level) s =
      .next { s with
        addr := addr, csum := sum, status := 0,
        cframe := ⟨0xA0, 0x01, 0x00, 0x00, 0x01, level, 0, 0, 0, sum.extractLsb' 8 8, sum.extractLsb' 0 8⟩ }) ∧
  (∀ (s : State) (addr r g b : Byte),
    let sum : Half := BitVec.ofNat 16 (0xA3 + r.toNat + g.toNat + b.toNat)
    exec (.rgb addr r g b) s = exec (.frBuild addr 0x02 r g b 0) s ∧
    exec (.rgb addr r g b) s =
      .next { s with
        addr := addr, csum := sum, status := 0,
        cframe := ⟨0xA0, 0x01, 0x00, 0x00, 0x02, r, g, b, 0, sum.extractLsb' 8 8, sum.extractLsb' 0 8⟩ }) ∧
  (∀ (s : State) (addr : Byte),
    exec (.onoff addr true) s = exec (.frBuild addr 0x03 1 0 0 0) s ∧
    exec (.onoff addr true) s =
      .next { s with
        addr := addr, csum := 0xA5, status := 0, cframe := ⟨0xA0, 0x01, 0x00, 0x00, 0x03, 1, 0, 0, 0, 0x00, 0xA5⟩ } ∧
    exec (.onoff addr false) s = exec (.frBuild addr 0x03 0 0 0 0) s ∧
    exec (.onoff addr false) s =
      .next { s with
        addr := addr, csum := 0xA4, status := 0, cframe := ⟨0xA0, 0x01, 0x00, 0x00, 0x03, 0, 0, 0, 0, 0x00, 0xA4⟩ }) ∧
  (∀ (s : State) (addr p0 : Byte),
    let sum : Half := BitVec.ofNat 16 (0xA4 + p0.toNat)
    exec (.frBuild addr 0x03 p0 0 0 0) s =
      .next { s with
        addr := addr, csum := sum, status := 0,
        cframe := ⟨0xA0, 0x01, 0x00, 0x00, 0x03, p0, 0, 0, 0, sum.extractLsb' 8 8, sum.extractLsb' 0 8⟩ })

/-- R109, R110. BLINK and BREATH complete with the frame of FR_BUILD_T with LED opcode 0x04 and 0x05: the sum of the times
wraps in 16 bits. -/
def Obligations.LedTimedCommandsBuildTheirFrames : Prop :=
  ∀ (s : State) (addr : Byte) (tOn tOff : Half),
    let tHigh : Half := BitVec.ofNat 16 (tOn.toNat + tOff.toNat)
    let bytes : Nat := tHigh.toNat / 256 + tHigh.toNat % 256 + tOn.toNat / 256 + tOn.toNat % 256
    let blinkSum : Half := BitVec.ofNat 16 (0xA5 + bytes)
    let breathSum : Half := BitVec.ofNat 16 (0xA6 + bytes)
    exec (.blink addr tOn tOff) s = exec (.frBuildT addr 0x04 tOn tOff) s ∧
    exec (.breath addr tOn tOff) s = exec (.frBuildT addr 0x05 tOn tOff) s ∧
    exec (.blink addr tOn tOff) s =
      .next { s with
        addr := addr, csum := blinkSum, status := 0,
        cframe := ⟨0xA0, 0x01, 0x00, 0x00, 0x04, tHigh.extractLsb' 8 8, tHigh.extractLsb' 0 8, tOn.extractLsb' 8 8,
          tOn.extractLsb' 0 8, blinkSum.extractLsb' 8 8, blinkSum.extractLsb' 0 8⟩ } ∧
    exec (.breath addr tOn tOff) s =
      .next { s with
        addr := addr, csum := breathSum, status := 0,
        cframe := ⟨0xA0, 0x01, 0x00, 0x00, 0x05, tHigh.extractLsb' 8 8, tHigh.extractLsb' 0 8, tOn.extractLsb' 8 8,
          tOn.extractLsb' 0 8, breathSum.extractLsb' 8 8, breathSum.extractLsb' 0 8⟩ }

/-- R112, R113. FR_VERIFY writes the sum of bytes 0 to 8 and the verdict, and a failed verdict is no fault. -/
def Obligations.FrVerifyWritesSumAndVerdict : Prop :=
  (∀ (s : State) (rlen : Byte) (b : Frame),
    let sum : Half := BitVec.ofNat 16 (sum9 b)
    exec (.frVerify rlen b) s =
      .next { s with
        vsum := sum, vok := decide (rlen = 11 ∧ sum ≠ 0 ∧ sum = BitVec.ofNat 16 (bigEndian [b.b9, b.b10])),
        status := 0 }) ∧
  (∀ (s : State) (rest : List HostEvent) (rlen b0 b1 b2 b3 b4 b5 b6 b7 b8 b9 b10 : Byte),
    s.host = .request [0x12, rlen, b0, b1, b2, b3, b4, b5, b6, b7, b8, b9, b10] :: rest →
    step s = exec (.frVerify rlen ⟨b0, b1, b2, b3, b4, b5, b6, b7, b8, b9, b10⟩) { s with host := rest }) ∧
  (∀ (s : State) (rest : List HostEvent) (body : List Byte), s.host = .request (0x12 :: body) :: rest →
    body.length ≠ 12 → step s = .next { s with host := rest, status := 2, fault := s.fault ||| 0x02 })

/-- R114, R115, R116, R117. FR_STATUS writes the sum and the verdict; with eleven bytes, a right checksum and a known mode
the whole snapshot; and otherwise the first reason of LENGTH, CHECKSUM, MODE with every other snapshot field 0. -/
def Obligations.FrStatusDecodesWholeSnapshotOrNone : Prop :=
  (∀ (s : State) (rlen : Byte) (b : Frame) (reason : StatusReason),
    let sum : Half := BitVec.ofNat 16 (sum9 b)
    (rlen ≠ 11 ∧ reason = .length ∨
      rlen = 11 ∧ ¬ (sum ≠ 0 ∧ sum = BitVec.ofNat 16 (bigEndian [b.b9, b.b10])) ∧ reason = .checksum ∨
      rlen = 11 ∧ sum ≠ 0 ∧ sum = BitVec.ofNat 16 (bigEndian [b.b9, b.b10]) ∧ 3 < b.b0.toNat ∧ reason = .mode) →
    exec (.frStatus rlen b) s =
      .next { s with
        vsum := sum, vok := decide (rlen = 11 ∧ sum ≠ 0 ∧ sum = BitVec.ofNat 16 (bigEndian [b.b9, b.b10])),
        status := 0,
        snap := { avail := false, reason := reason, mode := .off, bright := 0, r := 0, g := 0, b := 0, tHigh := 0,
                  tLow := 0, tOn := 0, tOff := 0, tAnom := false } }) ∧
  (∀ (s : State) (b : Frame) (mode : LedMode),
    let sum : Half := BitVec.ofNat 16 (sum9 b)
    let tHigh : Half := BitVec.ofNat 16 (bigEndian [b.b5, b.b6])
    let tLow : Half := BitVec.ofNat 16 (bigEndian [b.b7, b.b8])
    sum ≠ 0 → sum = BitVec.ofNat 16 (bigEndian [b.b9, b.b10]) →
    (b.b0 = 0 ∧ mode = .off ∨ b.b0 = 1 ∧ mode = .on ∨ b.b0 = 2 ∧ mode = .blink ∨ b.b0 = 3 ∧ mode = .breath) →
    exec (.frStatus 11 b) s =
      .next { s with
        vsum := sum, vok := true, status := 0,
        snap := { avail := true, reason := .none, mode := mode, bright := b.b1, r := b.b2, g := b.b3, b := b.b4,
                  tHigh := tHigh, tLow := tLow, tOn := tLow,
                  tOff := BitVec.ofNat 16 (2 ^ 16 + tHigh.toNat - tLow.toNat),
                  tAnom := decide (tHigh.toNat < tLow.toNat) } }) ∧
  (∀ (s : State) (rest : List HostEvent) (rlen b0 b1 b2 b3 b4 b5 b6 b7 b8 b9 b10 : Byte),
    s.host = .request [0x13, rlen, b0, b1, b2, b3, b4, b5, b6, b7, b8, b9, b10] :: rest →
    step s = exec (.frStatus rlen ⟨b0, b1, b2, b3, b4, b5, b6, b7, b8, b9, b10⟩) { s with host := rest }) ∧
  (∀ (s : State) (rest : List HostEvent) (body : List Byte), s.host = .request (0x13 :: body) :: rest →
    body.length ≠ 12 → step s = .next { s with host := rest, status := 2, fault := s.fault ||| 0x02 })

/-- R103. CHK9 is the sum of frame bytes 0 to 8 modulo 2^16; the trailing bytes do not enter it. -/
def Obligations.ChecksumIsThePayloadSum : Prop :=
  ∀ f : Frame, (chk9 f).toNat = sum9 f % 2 ^ 16 ∧ ∀ x y : Byte, chk9 { f with b9 := x, b10 := y } = chk9 f

/-- 40_framer.md section 5, its sentence on the range of a built frame's checksum ("and so never 0"), which the spec marks
as derived: every completing build leaves CSUM in 0x00A2 to 0x04A2, and both ends occur. -/
def Obligations.BuiltChecksumStaysInRange : Prop :=
  (∀ (i : Instr) (s t : State), i.op = .frBuild ∨ i.op = .frBuildT → exec i s = .next t → t.status = 0 →
    0x00A2 ≤ t.csum.toNat ∧ t.csum.toNat ≤ 0x04A2) ∧
  (∀ s : State, ∃ t, exec (.frBuild 0 1 0 0 0 0) s = .next t ∧ t.status = 0 ∧ t.csum = 0x00A2) ∧
  (∀ s : State, ∃ t, exec (.frBuild 0 5 255 255 255 255) s = .next t ∧ t.status = 0 ∧ t.csum = 0x04A2)

/-- 40_framer.md section 5, the round trip the spec marks as derived: the frame any completing build leaves passes
FR_VERIFY, with the sum equal to CSUM. -/
def Obligations.BuiltFramesPassVerification : Prop :=
  ∀ (i : Instr) (s t : State), i.op = .frBuild ∨ i.op = .frBuildT → exec i s = .next t → t.status = 0 →
    exec (.frVerify 11 t.cframe) t = .next { t with vok := true, vsum := t.csum, status := 0 }

/-- 40_framer.md section 5, zero-sum rejection, which the spec marks as derived: the sum of nine bytes is at most 2295 and so
never reduced, it is 0 exactly for nine zero bytes, and no trailing bytes make such a frame pass. -/
def Obligations.ZeroPayloadNeverVerifies : Prop :=
  (∀ b : Frame, (chk9 b).toNat = sum9 b ∧ sum9 b ≤ 2295) ∧
  (∀ b : Frame, chk9 b = 0 ↔
    b.b0 = 0 ∧ b.b1 = 0 ∧ b.b2 = 0 ∧ b.b3 = 0 ∧ b.b4 = 0 ∧ b.b5 = 0 ∧ b.b6 = 0 ∧ b.b7 = 0 ∧ b.b8 = 0) ∧
  (∀ (s : State) (rlen x y : Byte),
    exec (.frVerify rlen ⟨0, 0, 0, 0, 0, 0, 0, 0, 0, x, y⟩) s = .next { s with vsum := 0, vok := false, status := 0 })

/-- 40_framer.md section 5, the time round trip, which the spec marks as derived: a status frame that carries the times a
completing FR_BUILD_T packed decodes to the same t_on and t_off, and the anomaly flag says that their sum wrapped. -/
def Obligations.PackedTimesDecodeToThemselves : Prop :=
  ∀ (s t u : State) (addr opc : Byte) (tOn tOff : Half) (b : Frame),
    exec (.frBuildT addr opc tOn tOff) s = .next t → t.status = 0 →
    b.b5 = t.cframe.b5 → b.b6 = t.cframe.b6 → b.b7 = t.cframe.b7 → b.b8 = t.cframe.b8 →
    exec (.frStatus 11 b) t = .next u → u.snap.avail = true →
    u.snap.tOn = tOn ∧ u.snap.tOff = tOff ∧ (u.snap.tAnom = true ↔ 2 ^ 16 ≤ tOn.toNat + tOff.toNat)

/-! ### The counter unit -/

/-- R140. CTR_INIT takes the baseline and clears the reading, whatever came before. -/
def Obligations.CtrInitTakesBaseline : Prop :=
  (∀ (s : State) (rx tx : DWord),
    exec (.ctrInit rx tx) s =
      .next { s with
        baseRx := rx, baseTx := tx, baseValid := true, deltaRx := 0, deltaTx := 0, deltaValid := false, wrapRx := false,
        wrapTx := false, status := 0 }) ∧
  (∀ (s : State) (rest : List HostEvent) (a0 a1 a2 a3 a4 a5 a6 a7 c0 c1 c2 c3 c4 c5 c6 c7 : Byte),
    s.host = .request [0x20, a0, a1, a2, a3, a4, a5, a6, a7, c0, c1, c2, c3, c4, c5, c6, c7] :: rest →
    step s = exec (.ctrInit (BitVec.ofNat 64 (bigEndian [a0, a1, a2, a3, a4, a5, a6, a7]))
      (BitVec.ofNat 64 (bigEndian [c0, c1, c2, c3, c4, c5, c6, c7]))) { s with host := rest }) ∧
  (∀ (s : State) (rest : List HostEvent) (body : List Byte), s.host = .request (0x20 :: body) :: rest →
    body.length ≠ 16 → step s = .next { s with host := rest, status := 2, fault := s.fault ||| 0x02 })

/-- R143, R145, R146, with the deltas of R141 where the reading is valid. Every completing CTR_SAMPLE replaces the
baseline and records the branch of each counter. With SHORT = 1 the deltas are left open here, since R144 lets no claim
rest on them (log entry 8). Without a baseline it faults NOT_INIT. -/
def Obligations.CtrSampleReplacesBaselineOrFaults : Prop :=
  (∀ (s : State) (rx tx : DWord), s.baseValid = true →
    let dRx : DWord := BitVec.ofNat 64 (if s.baseRx.toNat ≤ rx.toNat then rx.toNat - s.baseRx.toNat
      else (2 ^ 64 - 1 - s.baseRx.toNat) + rx.toNat)
    let dTx : DWord := BitVec.ofNat 64 (if s.baseTx.toNat ≤ tx.toNat then tx.toNat - s.baseTx.toNat
      else (2 ^ 64 - 1 - s.baseTx.toNat) + tx.toNat)
    exec (.ctrSample false rx tx) s =
      .next { s with
        deltaRx := dRx, deltaTx := dTx, deltaValid := true, wrapRx := decide (rx.toNat < s.baseRx.toNat),
        wrapTx := decide (tx.toNat < s.baseTx.toNat), baseRx := rx, baseTx := tx, status := 0 }) ∧
  (∀ (s : State) (rx tx : DWord), s.baseValid = true →
    ∃ dRx dTx : DWord,
      exec (.ctrSample true rx tx) s =
        .next { s with
          deltaRx := dRx, deltaTx := dTx, deltaValid := false, wrapRx := decide (rx.toNat < s.baseRx.toNat),
          wrapTx := decide (tx.toNat < s.baseTx.toNat), baseRx := rx, baseTx := tx, status := 0 }) ∧
  (∀ (s : State) (short : Bool) (rx tx : DWord), s.baseValid = false →
    exec (.ctrSample short rx tx) s = .next { s with status := 4, fault := s.fault ||| 0x08 }) ∧
  (∀ (s : State) (rest : List HostEvent) (flags a0 a1 a2 a3 a4 a5 a6 a7 c0 c1 c2 c3 c4 c5 c6 c7 : Byte),
    s.host = .request [0x21, flags, a0, a1, a2, a3, a4, a5, a6, a7, c0, c1, c2, c3, c4, c5, c6, c7] :: rest →
    flags.extractLsb' 1 7 = 0 →
    step s = exec (.ctrSample (flags.getLsbD 0) (BitVec.ofNat 64 (bigEndian [a0, a1, a2, a3, a4, a5, a6, a7]))
      (BitVec.ofNat 64 (bigEndian [c0, c1, c2, c3, c4, c5, c6, c7]))) { s with host := rest }) ∧
  (∀ (s : State) (rest : List HostEvent) (flags : Byte) (body : List Byte),
    s.host = .request (0x21 :: flags :: body) :: rest → body.length = 16 → flags.extractLsb' 1 7 ≠ 0 →
    step s = .next { s with host := rest, status := 8, fault := s.fault ||| 0x80 }) ∧
  (∀ (s : State) (rest : List HostEvent) (body : List Byte), s.host = .request (0x21 :: body) :: rest →
    body.length ≠ 17 → step s = .next { s with host := rest, status := 2, fault := s.fault ||| 0x02 })

/-- R141. WDELTA is the source's formula over 64-bit unsigned numbers, with the source's worked example. -/
def Obligations.WdeltaIsTheSourceFormula : Prop :=
  (∀ cur prev : DWord, prev.toNat ≤ cur.toNat → (wdelta cur prev).toNat = cur.toNat - prev.toNat) ∧
  (∀ cur prev : DWord, cur.toNat < prev.toNat →
    (wdelta cur prev).toNat = (2 ^ 64 - 1 - prev.toNat) + cur.toNat) ∧
  wdelta 10 0xFFFFFFFFFFFFFFCD = 60

/-- 41_counter.md, its last two paragraphs, which the spec marks as derived: a wrapped delta is at most U64_MAX - 1 and is
one less than the difference modulo 2^64, and any other delta is that difference. -/
def Obligations.WdeltaAgainstModularDifference : Prop :=
  ∀ cur prev : DWord,
    (cur.toNat < prev.toNat → (wdelta cur prev).toNat ≤ 2 ^ 64 - 2 ∧ wdelta cur prev + 1 = cur - prev) ∧
    (prev.toNat ≤ cur.toNat → wdelta cur prev = cur - prev)

/-- 41_counter.md R144 as far as a claim may go: with SHORT as the host finds it, a completing CTR_SAMPLE leaves
DELTA_VALID = 1 exactly when 100 ms have passed, whatever the counters hold. That the elapsed time is a whole number of
milliseconds is the model's choice (log entry 19). -/
def Obligations.ShortIntervalIsNeverValid : Prop :=
  ∀ (s : State) (elapsedMs : Nat) (rx tx : DWord), s.baseValid = true →
    ∃ t, exec (.ctrSample (hostShort elapsedMs) rx tx) s = .next t ∧ (t.deltaValid = true ↔ 100 ≤ elapsedMs)

/-! ### The classifier -/

/-- R160, R161. CLS_SETTH stores any three bytes as given and leaves the classification alone. -/
def Obligations.ClsSetthStoresAnyThresholds : Prop :=
  (∀ (s : State) (low med high : Byte),
    exec (.clsSetth low med high) s =
      .next { s with thLow := low, thMed := med, thHigh := high, thValid := true, status := 0 }) ∧
  (∀ (s : State) (rest : List HostEvent) (low med high : Byte), s.host = .request [0x30, low, med, high] :: rest →
    step s = exec (.clsSetth low med high) { s with host := rest }) ∧
  (∀ (s : State) (rest : List HostEvent) (body : List Byte), s.host = .request (0x30 :: body) :: rest →
    body.length ≠ 3 → step s = .next { s with host := rest, status := 2, fault := s.fault ||| 0x02 })

/-- R163, R164, R165, R162. CLS_CLASSIFY: an invalid reading is not consumed and nothing is checked; else NOT_CONFIG, else
USAGE_NAN, else the first band whose threshold the usage's real value is below. -/
def Obligations.ClsClassifyBandsTheUsage : Prop :=
  (∀ (s : State) (u : DWord), exec (.clsClassify false u) s = .next { s with vsUpd := false, status := 0 }) ∧
  (∀ (s : State) (u : DWord), s.thValid = false →
    exec (.clsClassify true u) s = .next { s with status := 5, fault := s.fault ||| 0x10 }) ∧
  (∀ (s : State) (u : DWord), s.thValid = true → (u.extractLsb' 52 11).toNat = 0x7FF → u.extractLsb' 0 52 ≠ 0 →
    exec (.clsClassify true u) s = .next { s with status := 6, fault := s.fault ||| 0x20 }) ∧
  (∀ (s : State) (u : DWord), s.thValid = true →
    ¬ ((u.extractLsb' 52 11).toNat = 0x7FF ∧ u.extractLsb' 0 52 ≠ 0) →
    exec (.clsClassify true u) s =
      .next { s with vstate := bandOf u s.thLow s.thMed s.thHigh, vsUpd := true, status := 0 }) ∧
  (∀ (s : State) (rest : List HostEvent) (body : List Byte), s.host = .request (0x31 :: body) :: rest →
    body.length ≠ 9 → step s = .next { s with host := rest, status := 2, fault := s.fault ||| 0x02 }) ∧
  (∀ (s : State) (rest : List HostEvent) (flags : Byte) (body : List Byte),
    s.host = .request (0x31 :: flags :: body) :: rest → body.length = 8 → flags.extractLsb' 1 7 ≠ 0 →
    step s = .next { s with host := rest, status := 8, fault := s.fault ||| 0x80 }) ∧
  (∀ (s : State) (rest : List HostEvent) (flags a0 a1 a2 a3 a4 a5 a6 a7 : Byte),
    s.host = .request [0x31, flags, a0, a1, a2, a3, a4, a5, a6, a7] :: rest → flags.extractLsb' 1 7 = 0 →
    step s = exec (.clsClassify (flags.getLsbD 0) (BitVec.ofNat 64 (bigEndian [a0, a1, a2, a3, a4, a5, a6, a7])))
      { s with host := rest })

/-- R14. The comparator is the comparison of real numbers: exact on every finite pattern, minus infinity below every
threshold and plus infinity above, and the two zeros equal. -/
def Obligations.ComparisonIsExactOnRealValues : Prop :=
  (∀ (w : DWord) (t : Nat), (w.extractLsb' 52 11).toNat ≠ 0x7FF → (f64Lt w t = true ↔ ieeeValue w < (t : ℚ))) ∧
  (∀ t : Nat, f64Lt 0xFFF0000000000000 t = true ∧ f64Lt 0x7FF0000000000000 t = false) ∧
  (∀ t : Nat, f64Lt 0x8000000000000000 t = f64Lt 0 t) ∧
  (∀ w : DWord, isNaN w = true ↔ (w.extractLsb' 52 11).toNat = 0x7FF ∧ (w.extractLsb' 0 52).toNat ≠ 0)

/-- 42_classifier.md, "Ordered thresholds", which the spec marks as derived: for ordered thresholds and a value in
[0, 100] the result is the half-open band that holds the value, and above 100 a high threshold is out of reach. -/
def Obligations.OrderedThresholdsGiveHalfOpenBands : Prop :=
  ∀ (u : DWord) (l m h : Byte), (u.extractLsb' 52 11).toNat ≠ 0x7FF → l.toNat ≤ m.toNat → m.toNat ≤ h.toNat →
    0 ≤ ieeeValue u → ieeeValue u ≤ 100 →
    (classify u l m h = .off ↔ ieeeValue u < l.toNat) ∧
    (classify u l m h = .low ↔ l.toNat ≤ ieeeValue u ∧ ieeeValue u < m.toNat) ∧
    (classify u l m h = .medium ↔ m.toNat ≤ ieeeValue u ∧ ieeeValue u < h.toNat) ∧
    (classify u l m h = .high ↔ h.toNat ≤ ieeeValue u) ∧
    (100 < h.toNat → classify u l m h ≠ .high)

/-- 42_classifier.md, "Degenerate threshold sets", which the spec marks as derived: what the first-match chain makes of
equal, zero and inverted thresholds. -/
def Obligations.DegenerateThresholdsFollowTheChain : Prop :=
  (∀ (u : DWord) (l h : Byte), classify u l l h ≠ .low) ∧
  (∀ (u : DWord) (l h : Byte), (u.extractLsb' 52 11).toNat ≠ 0x7FF → l.toNat ≤ ieeeValue u → ieeeValue u < h.toNat →
    classify u l l h = .medium) ∧
  (∀ (u : DWord) (l m : Byte), classify u l m m ≠ .medium) ∧
  (∀ (u : DWord) (l m h : Byte), m.toNat ≤ l.toNat → classify u l m h ≠ .low) ∧
  (∀ (u : DWord) (m h : Byte), (u.extractLsb' 52 11).toNat ≠ 0x7FF → 0 ≤ ieeeValue u →
    classify u 0 m h ≠ .off ∧
    (ieeeValue u = 0 → 0 < m.toNat → classify u 0 m h = .low) ∧
    (ieeeValue u = 0 → m = 0 → 0 < h.toNat → classify u 0 m h = .medium) ∧
    classify u 0 0 0 = .high) ∧
  (∀ u : DWord, (u.extractLsb' 52 11).toNat ≠ 0x7FF →
    (ieeeValue u < 50 → classify u 50 20 80 = .off) ∧
    (50 ≤ ieeeValue u → ieeeValue u < 80 → classify u 50 20 80 = .medium) ∧
    (80 ≤ ieeeValue u → classify u 50 20 80 = .high))

/-! ### Faults, reset, and rules of the whole machine -/

/-- R181. Whatever the request and the state, a fault writes STATUS with a code 1 to 8 and sets that code's FAULT bit, and
leaves every other register as it was before the request. -/
def Obligations.FaultsArePrecise : Prop :=
  (∀ (i : Instr) (s t : State), exec i s = .next t → t.status ≠ 0 →
    1 ≤ t.status.toNat ∧ t.status.toNat ≤ 8 ∧
    t = { s with status := t.status, fault := s.fault ||| (1#8 <<< (t.status.toNat - 1)) }) ∧
  (∀ (s t : State) (req : List Byte) (rest : List HostEvent), s.host = .request req :: rest → step s = .next t →
    t.status ≠ 0 →
    1 ≤ t.status.toNat ∧ t.status.toNat ≤ 8 ∧
    t = { s with host := rest, status := t.status, fault := s.fault ||| (1#8 <<< (t.status.toNat - 1)) })

/-- R182. No request clears a FAULT bit, a completing one leaves FAULT as it is, reset clears it, and STATUS is rewritten
by every request: what it held before does not show in it after. -/
def Obligations.FaultBitsAreSticky : Prop :=
  (∀ (s t : State) (req : List Byte) (rest : List HostEvent), s.host = .request req :: rest → step s = .next t →
    s.fault &&& t.fault = s.fault ∧ (t.status = 0 → t.fault = s.fault)) ∧
  (∀ (s : State) (p : Option (List Byte)) (rest : List HostEvent), s.host = .reset p :: rest →
    ∃ t, step s = .next t ∧ t.fault = 0) ∧
  (∀ (s t t' : State) (v : Byte) (req : List Byte) (rest : List HostEvent), s.host = .request req :: rest →
    step s = .next t → step { s with status := v } = .next t' → t'.status = t.status) ∧
  (∀ s : State, s.noFault = true ↔ s.fault = 0)

/-- From 10_state.md R23. STATUS after any request, from any state, is 0 to 8; it is 0 after reset; and RD 0x00 returns the code of the
request before. -/
def Obligations.StatusHoldsALegalCode : Prop :=
  (∀ (s t : State) (req : List Byte) (rest : List HostEvent), s.host = .request req :: rest → step s = .next t →
    t.status.toNat ≤ 8) ∧
  (∀ s : State, ∃ t, exec (.rd 0x00) s = .next t ∧ t.rdata = s.status.setWidth 64 ∧ t.status = 0) ∧
  State.reset.status = 0

/-- R200, R201. Reset leaves every numbered register and RDATA at 0, also when it comes during a request, whatever that
request and the state were; and no other event clears a FAULT bit. -/
def Obligations.ResetClearsEveryRegister : Prop :=
  (∀ r : Reg, State.reset.read r = 0) ∧ State.reset.rdata = 0 ∧
  (∀ (s : State) (p : Option (List Byte)) (rest : List HostEvent), s.host = .reset p :: rest →
    ∃ t, step s = .next t ∧ (∀ r : Reg, t.read r = 0) ∧ t.rdata = 0) ∧
  (∀ (s t : State) (e : HostEvent) (rest : List HostEvent), s.host = e :: rest → step s = .next t →
    s.fault &&& t.fault ≠ s.fault → ∃ p, e = .reset p)

/-- 20_memory.md R57, the "writes" column: a completing request changes no register outside it, FAULT included; RDATA
changes under RD alone; and no request changes the host's list. -/
def Obligations.CompletingRequestsWriteOnlyTheirColumn : Prop :=
  ∀ (i : Instr) (s t : State), exec i s = .next t → t.status = 0 →
    (∀ r : Reg, r ∉ writesOf i → t.read r = s.read r) ∧
    ((∀ n : Byte, i ≠ .rd n) → t.rdata = s.rdata) ∧ t.host = s.host

/-- R57, the "reads" column: two states that agree on it give the same STATUS, and a request that completes leaves the same
values in its "writes" column, and in RDATA for RD. -/
def Obligations.EffectsDependOnlyOnReadColumn : Prop :=
  ∀ (i : Instr) (s s' t t' : State), (∀ r ∈ readsOf i, s.read r = s'.read r) →
    exec i s = .next t → exec i s' = .next t' →
    t.status = t'.status ∧
    (t.status = 0 → (∀ r ∈ writesOf i, t.read r = t'.read r) ∧ ((∃ n : Byte, i = .rd n) → t.rdata = t'.rdata))

/-- 20_memory.md R57's paragraph on repetition, which the spec marks as derived: repeating a completing request changes
nothing more, but for CTR_SAMPLE and for RD of STATUS, which R101 says reads the code before its own write (log entry
18). -/
def Obligations.RepeatedRequestsChangeNothingMore : Prop :=
  ∀ (i : Instr) (s t : State), exec i s = .next t → t.status = 0 → (∀ short rx tx, i ≠ .ctrSample short rx tx) →
    i ≠ .rd 0x00 → exec i t = .next t

/-- R38 and R43 with R25 and R44: BASE_VALID changes only under CTR_INIT and to 1, TH_VALID only under CLS_SETTH and to 1,
VSTATE only under a CLS_CLASSIFY with VALID = 1, RDATA only under RD; faulting requests change none of them. -/
def Obligations.GatesAndResultsHaveOneWriter : Prop :=
  ∀ (i : Instr) (s t : State), exec i s = .next t →
    (t.baseValid ≠ s.baseValid → (∃ rx tx, i = .ctrInit rx tx) ∧ t.baseValid = true) ∧
    (t.thValid ≠ s.thValid → (∃ l m h, i = .clsSetth l m h) ∧ t.thValid = true) ∧
    (t.vstate ≠ s.vstate → (∃ u, i = .clsClassify true u) ∧ t.status = 0 ∧ s.thValid = true) ∧
    (t.rdata ≠ s.rdata → (∃ n, i = .rd n) ∧ t.status = 0)

/-- The register rules R22 to R45 as one invariant that every step keeps: requests of any bytes, resets, and waiting. -/
def Obligations.EveryStepKeepsLegalState : Prop :=
  ∀ s t : State, s.Inv → step s = .next t → t.Inv

/-- The legal states hold the state after reset (R201). -/
def Obligations.ResetStateIsLegal : Prop := State.reset.Inv

/-! ### Encoding -/

/-- From R70, R71 and R72: decoding gives back every request that is encoded, with every operand; and a packet that decodes
is the one packet of its instruction, so no bit of it is dropped. That an LED command's packet is its pseudo-request's (R86)
and so decodes to its expansion is the model's reading (log entry 4). -/
def Obligations.DecodeInvertsEncode : Prop :=
  (∀ i : Instr, i.isRequest = true → decode (encode i) = .ok i) ∧
  (∀ i : Instr, decode (encode i) = .ok i.expand) ∧
  (∀ (req : List Byte) (i : Instr), decode req = .ok i → i.isRequest = true ∧ encode i = req)

/-- R78, R79: the frame an LED command builds reads back as that command, address and operands included; and a frame that
reads back as a command is the one that command builds. Reading frames back is the model's own (log entry 5). -/
def Obligations.BuiltLedFramesReadBack : Prop :=
  (∀ (i : Instr) (s t : State), i.isRequest = false → exec i s = .next t →
    t.status = 0 ∧ decodeLedFrame t.addr t.cframe = .ok i) ∧
  (∀ (addr : Byte) (f : Frame) (i : Instr) (s : State), decodeLedFrame addr f = .ok i →
    ∃ t, exec i s = .next t ∧ t.status = 0 ∧ t.addr = addr ∧ t.cframe = f)

/-- From R87: the stream of any list of packets, each as long as its op byte says, splits back into them, so the op byte alone
fixes each length; and the decoder stops at a reserved op byte with ILLEGAL_OP. That it then answers the error alone,
without the packets before it, is the model's choice (log entry 16). -/
def Obligations.StreamsSplitIntoTheirRequests : Prop :=
  ∀ reqs : List (List Byte),
    (∀ req ∈ reqs, ∃ (b : Byte) (body : List Byte) (op : Op), req = b :: body ∧ opOf b = some op ∧
      req.length = op.length) →
    splitStream reqs.flatten = .ok reqs ∧
    ∀ (b : Byte) (rest : List Byte), opOf b = none → splitStream (reqs.flatten ++ b :: rest) = .error (.illegalOp b)

/-- R86. Each pseudo-request is the one request its row gives, for every text of its operands. -/
def Obligations.PseudoRequestsExpandToOneRequest : Prop :=
  (∀ a level : List Char,
    (assembleFields "LED_BRIGHT" [a, level]).map encode =
      (assembleFields "FR_BUILD" [a, ['0', 'x', '0', '1'], level, ['0'], ['0'], ['0']]).map encode) ∧
  (∀ a r g b : List Char,
    (assembleFields "LED_RGB" [a, r, g, b]).map encode =
      (assembleFields "FR_BUILD" [a, ['0', 'x', '0', '2'], r, g, b, ['0']]).map encode) ∧
  (∀ a : List Char,
    (assembleFields "LED_ON" [a]).map encode =
      (assembleFields "FR_BUILD" [a, ['0', 'x', '0', '3'], ['1'], ['0'], ['0'], ['0']]).map encode) ∧
  (∀ a : List Char,
    (assembleFields "LED_OFF" [a]).map encode =
      (assembleFields "FR_BUILD" [a, ['0', 'x', '0', '3'], ['0'], ['0'], ['0'], ['0']]).map encode) ∧
  (∀ a tOn tOff : List Char,
    (assembleFields "LED_BLINK" [a, tOn, tOff]).map encode =
      (assembleFields "FR_BUILD_T" [a, ['0', 'x', '0', '4'], tOn, tOff]).map encode) ∧
  (∀ a tOn tOff : List Char,
    (assembleFields "LED_BREATH" [a, tOn, tOff]).map encode =
      (assembleFields "FR_BUILD_T" [a, ['0', 'x', '0', '5'], tOn, tOff]).map encode) ∧
  (∀ args : List (List Char),
    (assembleFields "GET_STATUS" args).map encode = (assembleFields "FR_STATUS" args).map encode)

/-- Packets written out by hand from 95_test_vectors.md, one or more of each family, and the instruction each stands for;
and two command frames of 40_framer.md. The ECB decodes no command frame (91_not_in_source.md N6): the last two clauses read
theirs with decodeLedFrame, which is the model's own choice (log entry 5). A sanity statement. -/
def Obligations.WrittenOutPacketsDecode : Prop :=
  decode [0x00] = .ok .nop ∧
  decode [0x01, 0x41] = .ok (.rd 0x41) ∧
  decode [0x10, 0x05, 0x02, 0xFF, 0x80, 0x00, 0x00] = .ok (.frBuild 0x05 0x02 0xFF 0x80 0x00 0x00) ∧
  decode [0x11, 0x05, 0x05, 0xFF, 0xFF, 0x00, 0x02] = .ok (.frBuildT 0x05 0x05 0xFFFF 2) ∧
  decode [0x21, 0x01, 0, 0, 0, 0, 0, 0, 0, 0x14, 0, 0, 0, 0, 0, 0, 0x05, 0xDC] = .ok (.ctrSample true 20 1500) ∧
  decode [0x30, 0x0A, 0x28, 0x50] = .ok (.clsSetth 10 40 80) ∧
  decode [0x31, 0x01, 0x40, 0x2E, 0, 0, 0, 0, 0, 0] = .ok (.clsClassify true 0x402E000000000000) ∧
  decodeLedFrame 0x05 ⟨0xA0, 0x01, 0x00, 0x00, 0x01, 0x80, 0x00, 0x00, 0x00, 0x01, 0x22⟩ = .ok (.brightness 0x05 0x80) ∧
  decodeLedFrame 0x05 ⟨0xA0, 0x01, 0x00, 0x00, 0x05, 0x00, 0x01, 0xFF, 0xFF, 0x02, 0xA5⟩ = .ok (.breath 0x05 0xFFFF 2)
end

