-- ==== Sys2Proof/Laws/State.lean ====
section
/-! SUPPORT. One lemma per field of State per update, each true by definition: what an update writes, and that it leaves
the rest. -/

namespace Sys2Proof.Machine

open Sys2Proof

/-! ### raise -/

section
variable (s : State) (c : FaultCode)

@[simp] theorem State.raise_status : (s.raise c).status = c.code := rfl
@[simp] theorem State.raise_fault : (s.raise c).fault = s.fault ||| faultBit c := rfl
@[simp] theorem State.raise_rdata : (s.raise c).rdata = s.rdata := rfl
@[simp] theorem State.raise_addr : (s.raise c).addr = s.addr := rfl
@[simp] theorem State.raise_cframe : (s.raise c).cframe = s.cframe := rfl
@[simp] theorem State.raise_csum : (s.raise c).csum = s.csum := rfl
@[simp] theorem State.raise_vok : (s.raise c).vok = s.vok := rfl
@[simp] theorem State.raise_vsum : (s.raise c).vsum = s.vsum := rfl
@[simp] theorem State.raise_snap : (s.raise c).snap = s.snap := rfl
@[simp] theorem State.raise_baseRx : (s.raise c).baseRx = s.baseRx := rfl
@[simp] theorem State.raise_baseTx : (s.raise c).baseTx = s.baseTx := rfl
@[simp] theorem State.raise_baseValid : (s.raise c).baseValid = s.baseValid := rfl
@[simp] theorem State.raise_deltaRx : (s.raise c).deltaRx = s.deltaRx := rfl
@[simp] theorem State.raise_deltaTx : (s.raise c).deltaTx = s.deltaTx := rfl
@[simp] theorem State.raise_deltaValid : (s.raise c).deltaValid = s.deltaValid := rfl
@[simp] theorem State.raise_wrapRx : (s.raise c).wrapRx = s.wrapRx := rfl
@[simp] theorem State.raise_wrapTx : (s.raise c).wrapTx = s.wrapTx := rfl
@[simp] theorem State.raise_thLow : (s.raise c).thLow = s.thLow := rfl
@[simp] theorem State.raise_thMed : (s.raise c).thMed = s.thMed := rfl
@[simp] theorem State.raise_thHigh : (s.raise c).thHigh = s.thHigh := rfl
@[simp] theorem State.raise_thValid : (s.raise c).thValid = s.thValid := rfl
@[simp] theorem State.raise_vstate : (s.raise c).vstate = s.vstate := rfl
@[simp] theorem State.raise_vsUpd : (s.raise c).vsUpd = s.vsUpd := rfl
@[simp] theorem State.raise_host : (s.raise c).host = s.host := rfl

end

/-! ### complete -/

section
variable (s : State)

@[simp] theorem State.complete_status : s.complete.status = 0 := rfl
@[simp] theorem State.complete_fault : s.complete.fault = s.fault := rfl
@[simp] theorem State.complete_rdata : s.complete.rdata = s.rdata := rfl
@[simp] theorem State.complete_addr : s.complete.addr = s.addr := rfl
@[simp] theorem State.complete_cframe : s.complete.cframe = s.cframe := rfl
@[simp] theorem State.complete_csum : s.complete.csum = s.csum := rfl
@[simp] theorem State.complete_vok : s.complete.vok = s.vok := rfl
@[simp] theorem State.complete_vsum : s.complete.vsum = s.vsum := rfl
@[simp] theorem State.complete_snap : s.complete.snap = s.snap := rfl
@[simp] theorem State.complete_baseRx : s.complete.baseRx = s.baseRx := rfl
@[simp] theorem State.complete_baseTx : s.complete.baseTx = s.baseTx := rfl
@[simp] theorem State.complete_baseValid : s.complete.baseValid = s.baseValid := rfl
@[simp] theorem State.complete_deltaRx : s.complete.deltaRx = s.deltaRx := rfl
@[simp] theorem State.complete_deltaTx : s.complete.deltaTx = s.deltaTx := rfl
@[simp] theorem State.complete_deltaValid : s.complete.deltaValid = s.deltaValid := rfl
@[simp] theorem State.complete_wrapRx : s.complete.wrapRx = s.wrapRx := rfl
@[simp] theorem State.complete_wrapTx : s.complete.wrapTx = s.wrapTx := rfl
@[simp] theorem State.complete_thLow : s.complete.thLow = s.thLow := rfl
@[simp] theorem State.complete_thMed : s.complete.thMed = s.thMed := rfl
@[simp] theorem State.complete_thHigh : s.complete.thHigh = s.thHigh := rfl
@[simp] theorem State.complete_thValid : s.complete.thValid = s.thValid := rfl
@[simp] theorem State.complete_vstate : s.complete.vstate = s.vstate := rfl
@[simp] theorem State.complete_vsUpd : s.complete.vsUpd = s.vsUpd := rfl
@[simp] theorem State.complete_host : s.complete.host = s.host := rfl

end

/-! ### loadRData -/

section
variable (s : State) (v : DWord)

@[simp] theorem State.loadRData_status : (s.loadRData v).status = s.status := rfl
@[simp] theorem State.loadRData_fault : (s.loadRData v).fault = s.fault := rfl
@[simp] theorem State.loadRData_rdata : (s.loadRData v).rdata = v := rfl
@[simp] theorem State.loadRData_addr : (s.loadRData v).addr = s.addr := rfl
@[simp] theorem State.loadRData_cframe : (s.loadRData v).cframe = s.cframe := rfl
@[simp] theorem State.loadRData_csum : (s.loadRData v).csum = s.csum := rfl
@[simp] theorem State.loadRData_vok : (s.loadRData v).vok = s.vok := rfl
@[simp] theorem State.loadRData_vsum : (s.loadRData v).vsum = s.vsum := rfl
@[simp] theorem State.loadRData_snap : (s.loadRData v).snap = s.snap := rfl
@[simp] theorem State.loadRData_baseRx : (s.loadRData v).baseRx = s.baseRx := rfl
@[simp] theorem State.loadRData_baseTx : (s.loadRData v).baseTx = s.baseTx := rfl
@[simp] theorem State.loadRData_baseValid : (s.loadRData v).baseValid = s.baseValid := rfl
@[simp] theorem State.loadRData_deltaRx : (s.loadRData v).deltaRx = s.deltaRx := rfl
@[simp] theorem State.loadRData_deltaTx : (s.loadRData v).deltaTx = s.deltaTx := rfl
@[simp] theorem State.loadRData_deltaValid : (s.loadRData v).deltaValid = s.deltaValid := rfl
@[simp] theorem State.loadRData_wrapRx : (s.loadRData v).wrapRx = s.wrapRx := rfl
@[simp] theorem State.loadRData_wrapTx : (s.loadRData v).wrapTx = s.wrapTx := rfl
@[simp] theorem State.loadRData_thLow : (s.loadRData v).thLow = s.thLow := rfl
@[simp] theorem State.loadRData_thMed : (s.loadRData v).thMed = s.thMed := rfl
@[simp] theorem State.loadRData_thHigh : (s.loadRData v).thHigh = s.thHigh := rfl
@[simp] theorem State.loadRData_thValid : (s.loadRData v).thValid = s.thValid := rfl
@[simp] theorem State.loadRData_vstate : (s.loadRData v).vstate = s.vstate := rfl
@[simp] theorem State.loadRData_vsUpd : (s.loadRData v).vsUpd = s.vsUpd := rfl
@[simp] theorem State.loadRData_host : (s.loadRData v).host = s.host := rfl

end

/-! ### loadFrame -/

section
variable (s : State) (a : Byte) (f : Frame)

@[simp] theorem State.loadFrame_status : (s.loadFrame a f).status = s.status := rfl
@[simp] theorem State.loadFrame_fault : (s.loadFrame a f).fault = s.fault := rfl
@[simp] theorem State.loadFrame_rdata : (s.loadFrame a f).rdata = s.rdata := rfl
@[simp] theorem State.loadFrame_addr : (s.loadFrame a f).addr = a := rfl
@[simp] theorem State.loadFrame_cframe : (s.loadFrame a f).cframe = f := rfl
@[simp] theorem State.loadFrame_csum : (s.loadFrame a f).csum = chk9 f := rfl
@[simp] theorem State.loadFrame_vok : (s.loadFrame a f).vok = s.vok := rfl
@[simp] theorem State.loadFrame_vsum : (s.loadFrame a f).vsum = s.vsum := rfl
@[simp] theorem State.loadFrame_snap : (s.loadFrame a f).snap = s.snap := rfl
@[simp] theorem State.loadFrame_baseRx : (s.loadFrame a f).baseRx = s.baseRx := rfl
@[simp] theorem State.loadFrame_baseTx : (s.loadFrame a f).baseTx = s.baseTx := rfl
@[simp] theorem State.loadFrame_baseValid : (s.loadFrame a f).baseValid = s.baseValid := rfl
@[simp] theorem State.loadFrame_deltaRx : (s.loadFrame a f).deltaRx = s.deltaRx := rfl
@[simp] theorem State.loadFrame_deltaTx : (s.loadFrame a f).deltaTx = s.deltaTx := rfl
@[simp] theorem State.loadFrame_deltaValid : (s.loadFrame a f).deltaValid = s.deltaValid := rfl
@[simp] theorem State.loadFrame_wrapRx : (s.loadFrame a f).wrapRx = s.wrapRx := rfl
@[simp] theorem State.loadFrame_wrapTx : (s.loadFrame a f).wrapTx = s.wrapTx := rfl
@[simp] theorem State.loadFrame_thLow : (s.loadFrame a f).thLow = s.thLow := rfl
@[simp] theorem State.loadFrame_thMed : (s.loadFrame a f).thMed = s.thMed := rfl
@[simp] theorem State.loadFrame_thHigh : (s.loadFrame a f).thHigh = s.thHigh := rfl
@[simp] theorem State.loadFrame_thValid : (s.loadFrame a f).thValid = s.thValid := rfl
@[simp] theorem State.loadFrame_vstate : (s.loadFrame a f).vstate = s.vstate := rfl
@[simp] theorem State.loadFrame_vsUpd : (s.loadFrame a f).vsUpd = s.vsUpd := rfl
@[simp] theorem State.loadFrame_host : (s.loadFrame a f).host = s.host := rfl

end

/-! ### loadVerdict -/

section
variable (s : State) (n : Byte) (b : Frame)

@[simp] theorem State.loadVerdict_status : (s.loadVerdict n b).status = s.status := rfl
@[simp] theorem State.loadVerdict_fault : (s.loadVerdict n b).fault = s.fault := rfl
@[simp] theorem State.loadVerdict_rdata : (s.loadVerdict n b).rdata = s.rdata := rfl
@[simp] theorem State.loadVerdict_addr : (s.loadVerdict n b).addr = s.addr := rfl
@[simp] theorem State.loadVerdict_cframe : (s.loadVerdict n b).cframe = s.cframe := rfl
@[simp] theorem State.loadVerdict_csum : (s.loadVerdict n b).csum = s.csum := rfl
@[simp] theorem State.loadVerdict_vok : (s.loadVerdict n b).vok = verify11 n b := rfl
@[simp] theorem State.loadVerdict_vsum : (s.loadVerdict n b).vsum = chk9 b := rfl
@[simp] theorem State.loadVerdict_snap : (s.loadVerdict n b).snap = s.snap := rfl
@[simp] theorem State.loadVerdict_baseRx : (s.loadVerdict n b).baseRx = s.baseRx := rfl
@[simp] theorem State.loadVerdict_baseTx : (s.loadVerdict n b).baseTx = s.baseTx := rfl
@[simp] theorem State.loadVerdict_baseValid : (s.loadVerdict n b).baseValid = s.baseValid := rfl
@[simp] theorem State.loadVerdict_deltaRx : (s.loadVerdict n b).deltaRx = s.deltaRx := rfl
@[simp] theorem State.loadVerdict_deltaTx : (s.loadVerdict n b).deltaTx = s.deltaTx := rfl
@[simp] theorem State.loadVerdict_deltaValid : (s.loadVerdict n b).deltaValid = s.deltaValid := rfl
@[simp] theorem State.loadVerdict_wrapRx : (s.loadVerdict n b).wrapRx = s.wrapRx := rfl
@[simp] theorem State.loadVerdict_wrapTx : (s.loadVerdict n b).wrapTx = s.wrapTx := rfl
@[simp] theorem State.loadVerdict_thLow : (s.loadVerdict n b).thLow = s.thLow := rfl
@[simp] theorem State.loadVerdict_thMed : (s.loadVerdict n b).thMed = s.thMed := rfl
@[simp] theorem State.loadVerdict_thHigh : (s.loadVerdict n b).thHigh = s.thHigh := rfl
@[simp] theorem State.loadVerdict_thValid : (s.loadVerdict n b).thValid = s.thValid := rfl
@[simp] theorem State.loadVerdict_vstate : (s.loadVerdict n b).vstate = s.vstate := rfl
@[simp] theorem State.loadVerdict_vsUpd : (s.loadVerdict n b).vsUpd = s.vsUpd := rfl
@[simp] theorem State.loadVerdict_host : (s.loadVerdict n b).host = s.host := rfl

end

/-! ### loadSnapshot -/

section
variable (s : State) (p : Snapshot)

@[simp] theorem State.loadSnapshot_status : (s.loadSnapshot p).status = s.status := rfl
@[simp] theorem State.loadSnapshot_fault : (s.loadSnapshot p).fault = s.fault := rfl
@[simp] theorem State.loadSnapshot_rdata : (s.loadSnapshot p).rdata = s.rdata := rfl
@[simp] theorem State.loadSnapshot_addr : (s.loadSnapshot p).addr = s.addr := rfl
@[simp] theorem State.loadSnapshot_cframe : (s.loadSnapshot p).cframe = s.cframe := rfl
@[simp] theorem State.loadSnapshot_csum : (s.loadSnapshot p).csum = s.csum := rfl
@[simp] theorem State.loadSnapshot_vok : (s.loadSnapshot p).vok = s.vok := rfl
@[simp] theorem State.loadSnapshot_vsum : (s.loadSnapshot p).vsum = s.vsum := rfl
@[simp] theorem State.loadSnapshot_snap : (s.loadSnapshot p).snap = p := rfl
@[simp] theorem State.loadSnapshot_baseRx : (s.loadSnapshot p).baseRx = s.baseRx := rfl
@[simp] theorem State.loadSnapshot_baseTx : (s.loadSnapshot p).baseTx = s.baseTx := rfl
@[simp] theorem State.loadSnapshot_baseValid : (s.loadSnapshot p).baseValid = s.baseValid := rfl
@[simp] theorem State.loadSnapshot_deltaRx : (s.loadSnapshot p).deltaRx = s.deltaRx := rfl
@[simp] theorem State.loadSnapshot_deltaTx : (s.loadSnapshot p).deltaTx = s.deltaTx := rfl
@[simp] theorem State.loadSnapshot_deltaValid : (s.loadSnapshot p).deltaValid = s.deltaValid := rfl
@[simp] theorem State.loadSnapshot_wrapRx : (s.loadSnapshot p).wrapRx = s.wrapRx := rfl
@[simp] theorem State.loadSnapshot_wrapTx : (s.loadSnapshot p).wrapTx = s.wrapTx := rfl
@[simp] theorem State.loadSnapshot_thLow : (s.loadSnapshot p).thLow = s.thLow := rfl
@[simp] theorem State.loadSnapshot_thMed : (s.loadSnapshot p).thMed = s.thMed := rfl
@[simp] theorem State.loadSnapshot_thHigh : (s.loadSnapshot p).thHigh = s.thHigh := rfl
@[simp] theorem State.loadSnapshot_thValid : (s.loadSnapshot p).thValid = s.thValid := rfl
@[simp] theorem State.loadSnapshot_vstate : (s.loadSnapshot p).vstate = s.vstate := rfl
@[simp] theorem State.loadSnapshot_vsUpd : (s.loadSnapshot p).vsUpd = s.vsUpd := rfl
@[simp] theorem State.loadSnapshot_host : (s.loadSnapshot p).host = s.host := rfl

end

/-! ### loadBaseline -/

section
variable (s : State) (rx tx : DWord)

@[simp] theorem State.loadBaseline_status : (s.loadBaseline rx tx).status = s.status := rfl
@[simp] theorem State.loadBaseline_fault : (s.loadBaseline rx tx).fault = s.fault := rfl
@[simp] theorem State.loadBaseline_rdata : (s.loadBaseline rx tx).rdata = s.rdata := rfl
@[simp] theorem State.loadBaseline_addr : (s.loadBaseline rx tx).addr = s.addr := rfl
@[simp] theorem State.loadBaseline_cframe : (s.loadBaseline rx tx).cframe = s.cframe := rfl
@[simp] theorem State.loadBaseline_csum : (s.loadBaseline rx tx).csum = s.csum := rfl
@[simp] theorem State.loadBaseline_vok : (s.loadBaseline rx tx).vok = s.vok := rfl
@[simp] theorem State.loadBaseline_vsum : (s.loadBaseline rx tx).vsum = s.vsum := rfl
@[simp] theorem State.loadBaseline_snap : (s.loadBaseline rx tx).snap = s.snap := rfl
@[simp] theorem State.loadBaseline_baseRx : (s.loadBaseline rx tx).baseRx = rx := rfl
@[simp] theorem State.loadBaseline_baseTx : (s.loadBaseline rx tx).baseTx = tx := rfl
@[simp] theorem State.loadBaseline_baseValid : (s.loadBaseline rx tx).baseValid = s.baseValid := rfl
@[simp] theorem State.loadBaseline_deltaRx : (s.loadBaseline rx tx).deltaRx = s.deltaRx := rfl
@[simp] theorem State.loadBaseline_deltaTx : (s.loadBaseline rx tx).deltaTx = s.deltaTx := rfl
@[simp] theorem State.loadBaseline_deltaValid : (s.loadBaseline rx tx).deltaValid = s.deltaValid := rfl
@[simp] theorem State.loadBaseline_wrapRx : (s.loadBaseline rx tx).wrapRx = s.wrapRx := rfl
@[simp] theorem State.loadBaseline_wrapTx : (s.loadBaseline rx tx).wrapTx = s.wrapTx := rfl
@[simp] theorem State.loadBaseline_thLow : (s.loadBaseline rx tx).thLow = s.thLow := rfl
@[simp] theorem State.loadBaseline_thMed : (s.loadBaseline rx tx).thMed = s.thMed := rfl
@[simp] theorem State.loadBaseline_thHigh : (s.loadBaseline rx tx).thHigh = s.thHigh := rfl
@[simp] theorem State.loadBaseline_thValid : (s.loadBaseline rx tx).thValid = s.thValid := rfl
@[simp] theorem State.loadBaseline_vstate : (s.loadBaseline rx tx).vstate = s.vstate := rfl
@[simp] theorem State.loadBaseline_vsUpd : (s.loadBaseline rx tx).vsUpd = s.vsUpd := rfl
@[simp] theorem State.loadBaseline_host : (s.loadBaseline rx tx).host = s.host := rfl

end

/-! ### setBaseValid -/

section
variable (s : State)

@[simp] theorem State.setBaseValid_status : s.setBaseValid.status = s.status := rfl
@[simp] theorem State.setBaseValid_fault : s.setBaseValid.fault = s.fault := rfl
@[simp] theorem State.setBaseValid_rdata : s.setBaseValid.rdata = s.rdata := rfl
@[simp] theorem State.setBaseValid_addr : s.setBaseValid.addr = s.addr := rfl
@[simp] theorem State.setBaseValid_cframe : s.setBaseValid.cframe = s.cframe := rfl
@[simp] theorem State.setBaseValid_csum : s.setBaseValid.csum = s.csum := rfl
@[simp] theorem State.setBaseValid_vok : s.setBaseValid.vok = s.vok := rfl
@[simp] theorem State.setBaseValid_vsum : s.setBaseValid.vsum = s.vsum := rfl
@[simp] theorem State.setBaseValid_snap : s.setBaseValid.snap = s.snap := rfl
@[simp] theorem State.setBaseValid_baseRx : s.setBaseValid.baseRx = s.baseRx := rfl
@[simp] theorem State.setBaseValid_baseTx : s.setBaseValid.baseTx = s.baseTx := rfl
@[simp] theorem State.setBaseValid_baseValid : s.setBaseValid.baseValid = true := rfl
@[simp] theorem State.setBaseValid_deltaRx : s.setBaseValid.deltaRx = s.deltaRx := rfl
@[simp] theorem State.setBaseValid_deltaTx : s.setBaseValid.deltaTx = s.deltaTx := rfl
@[simp] theorem State.setBaseValid_deltaValid : s.setBaseValid.deltaValid = s.deltaValid := rfl
@[simp] theorem State.setBaseValid_wrapRx : s.setBaseValid.wrapRx = s.wrapRx := rfl
@[simp] theorem State.setBaseValid_wrapTx : s.setBaseValid.wrapTx = s.wrapTx := rfl
@[simp] theorem State.setBaseValid_thLow : s.setBaseValid.thLow = s.thLow := rfl
@[simp] theorem State.setBaseValid_thMed : s.setBaseValid.thMed = s.thMed := rfl
@[simp] theorem State.setBaseValid_thHigh : s.setBaseValid.thHigh = s.thHigh := rfl
@[simp] theorem State.setBaseValid_thValid : s.setBaseValid.thValid = s.thValid := rfl
@[simp] theorem State.setBaseValid_vstate : s.setBaseValid.vstate = s.vstate := rfl
@[simp] theorem State.setBaseValid_vsUpd : s.setBaseValid.vsUpd = s.vsUpd := rfl
@[simp] theorem State.setBaseValid_host : s.setBaseValid.host = s.host := rfl

end

/-! ### loadReading -/

section
variable (s : State) (dRx dTx : DWord) (v wRx wTx : Bool)

@[simp] theorem State.loadReading_status : (s.loadReading dRx dTx v wRx wTx).status = s.status := rfl
@[simp] theorem State.loadReading_fault : (s.loadReading dRx dTx v wRx wTx).fault = s.fault := rfl
@[simp] theorem State.loadReading_rdata : (s.loadReading dRx dTx v wRx wTx).rdata = s.rdata := rfl
@[simp] theorem State.loadReading_addr : (s.loadReading dRx dTx v wRx wTx).addr = s.addr := rfl
@[simp] theorem State.loadReading_cframe : (s.loadReading dRx dTx v wRx wTx).cframe = s.cframe := rfl
@[simp] theorem State.loadReading_csum : (s.loadReading dRx dTx v wRx wTx).csum = s.csum := rfl
@[simp] theorem State.loadReading_vok : (s.loadReading dRx dTx v wRx wTx).vok = s.vok := rfl
@[simp] theorem State.loadReading_vsum : (s.loadReading dRx dTx v wRx wTx).vsum = s.vsum := rfl
@[simp] theorem State.loadReading_snap : (s.loadReading dRx dTx v wRx wTx).snap = s.snap := rfl
@[simp] theorem State.loadReading_baseRx : (s.loadReading dRx dTx v wRx wTx).baseRx = s.baseRx := rfl
@[simp] theorem State.loadReading_baseTx : (s.loadReading dRx dTx v wRx wTx).baseTx = s.baseTx := rfl
@[simp] theorem State.loadReading_baseValid : (s.loadReading dRx dTx v wRx wTx).baseValid = s.baseValid := rfl
@[simp] theorem State.loadReading_deltaRx : (s.loadReading dRx dTx v wRx wTx).deltaRx = dRx := rfl
@[simp] theorem State.loadReading_deltaTx : (s.loadReading dRx dTx v wRx wTx).deltaTx = dTx := rfl
@[simp] theorem State.loadReading_deltaValid : (s.loadReading dRx dTx v wRx wTx).deltaValid = v := rfl
@[simp] theorem State.loadReading_wrapRx : (s.loadReading dRx dTx v wRx wTx).wrapRx = wRx := rfl
@[simp] theorem State.loadReading_wrapTx : (s.loadReading dRx dTx v wRx wTx).wrapTx = wTx := rfl
@[simp] theorem State.loadReading_thLow : (s.loadReading dRx dTx v wRx wTx).thLow = s.thLow := rfl
@[simp] theorem State.loadReading_thMed : (s.loadReading dRx dTx v wRx wTx).thMed = s.thMed := rfl
@[simp] theorem State.loadReading_thHigh : (s.loadReading dRx dTx v wRx wTx).thHigh = s.thHigh := rfl
@[simp] theorem State.loadReading_thValid : (s.loadReading dRx dTx v wRx wTx).thValid = s.thValid := rfl
@[simp] theorem State.loadReading_vstate : (s.loadReading dRx dTx v wRx wTx).vstate = s.vstate := rfl
@[simp] theorem State.loadReading_vsUpd : (s.loadReading dRx dTx v wRx wTx).vsUpd = s.vsUpd := rfl
@[simp] theorem State.loadReading_host : (s.loadReading dRx dTx v wRx wTx).host = s.host := rfl

end

/-! ### loadThresholds -/

section
variable (s : State) (l m h : Byte)

@[simp] theorem State.loadThresholds_status : (s.loadThresholds l m h).status = s.status := rfl
@[simp] theorem State.loadThresholds_fault : (s.loadThresholds l m h).fault = s.fault := rfl
@[simp] theorem State.loadThresholds_rdata : (s.loadThresholds l m h).rdata = s.rdata := rfl
@[simp] theorem State.loadThresholds_addr : (s.loadThresholds l m h).addr = s.addr := rfl
@[simp] theorem State.loadThresholds_cframe : (s.loadThresholds l m h).cframe = s.cframe := rfl
@[simp] theorem State.loadThresholds_csum : (s.loadThresholds l m h).csum = s.csum := rfl
@[simp] theorem State.loadThresholds_vok : (s.loadThresholds l m h).vok = s.vok := rfl
@[simp] theorem State.loadThresholds_vsum : (s.loadThresholds l m h).vsum = s.vsum := rfl
@[simp] theorem State.loadThresholds_snap : (s.loadThresholds l m h).snap = s.snap := rfl
@[simp] theorem State.loadThresholds_baseRx : (s.loadThresholds l m h).baseRx = s.baseRx := rfl
@[simp] theorem State.loadThresholds_baseTx : (s.loadThresholds l m h).baseTx = s.baseTx := rfl
@[simp] theorem State.loadThresholds_baseValid : (s.loadThresholds l m h).baseValid = s.baseValid := rfl
@[simp] theorem State.loadThresholds_deltaRx : (s.loadThresholds l m h).deltaRx = s.deltaRx := rfl
@[simp] theorem State.loadThresholds_deltaTx : (s.loadThresholds l m h).deltaTx = s.deltaTx := rfl
@[simp] theorem State.loadThresholds_deltaValid : (s.loadThresholds l m h).deltaValid = s.deltaValid := rfl
@[simp] theorem State.loadThresholds_wrapRx : (s.loadThresholds l m h).wrapRx = s.wrapRx := rfl
@[simp] theorem State.loadThresholds_wrapTx : (s.loadThresholds l m h).wrapTx = s.wrapTx := rfl
@[simp] theorem State.loadThresholds_thLow : (s.loadThresholds l m h).thLow = l := rfl
@[simp] theorem State.loadThresholds_thMed : (s.loadThresholds l m h).thMed = m := rfl
@[simp] theorem State.loadThresholds_thHigh : (s.loadThresholds l m h).thHigh = h := rfl
@[simp] theorem State.loadThresholds_thValid : (s.loadThresholds l m h).thValid = true := rfl
@[simp] theorem State.loadThresholds_vstate : (s.loadThresholds l m h).vstate = s.vstate := rfl
@[simp] theorem State.loadThresholds_vsUpd : (s.loadThresholds l m h).vsUpd = s.vsUpd := rfl
@[simp] theorem State.loadThresholds_host : (s.loadThresholds l m h).host = s.host := rfl

end

/-! ### loadVisual -/

section
variable (s : State) (v : VisualState)

@[simp] theorem State.loadVisual_status : (s.loadVisual v).status = s.status := rfl
@[simp] theorem State.loadVisual_fault : (s.loadVisual v).fault = s.fault := rfl
@[simp] theorem State.loadVisual_rdata : (s.loadVisual v).rdata = s.rdata := rfl
@[simp] theorem State.loadVisual_addr : (s.loadVisual v).addr = s.addr := rfl
@[simp] theorem State.loadVisual_cframe : (s.loadVisual v).cframe = s.cframe := rfl
@[simp] theorem State.loadVisual_csum : (s.loadVisual v).csum = s.csum := rfl
@[simp] theorem State.loadVisual_vok : (s.loadVisual v).vok = s.vok := rfl
@[simp] theorem State.loadVisual_vsum : (s.loadVisual v).vsum = s.vsum := rfl
@[simp] theorem State.loadVisual_snap : (s.loadVisual v).snap = s.snap := rfl
@[simp] theorem State.loadVisual_baseRx : (s.loadVisual v).baseRx = s.baseRx := rfl
@[simp] theorem State.loadVisual_baseTx : (s.loadVisual v).baseTx = s.baseTx := rfl
@[simp] theorem State.loadVisual_baseValid : (s.loadVisual v).baseValid = s.baseValid := rfl
@[simp] theorem State.loadVisual_deltaRx : (s.loadVisual v).deltaRx = s.deltaRx := rfl
@[simp] theorem State.loadVisual_deltaTx : (s.loadVisual v).deltaTx = s.deltaTx := rfl
@[simp] theorem State.loadVisual_deltaValid : (s.loadVisual v).deltaValid = s.deltaValid := rfl
@[simp] theorem State.loadVisual_wrapRx : (s.loadVisual v).wrapRx = s.wrapRx := rfl
@[simp] theorem State.loadVisual_wrapTx : (s.loadVisual v).wrapTx = s.wrapTx := rfl
@[simp] theorem State.loadVisual_thLow : (s.loadVisual v).thLow = s.thLow := rfl
@[simp] theorem State.loadVisual_thMed : (s.loadVisual v).thMed = s.thMed := rfl
@[simp] theorem State.loadVisual_thHigh : (s.loadVisual v).thHigh = s.thHigh := rfl
@[simp] theorem State.loadVisual_thValid : (s.loadVisual v).thValid = s.thValid := rfl
@[simp] theorem State.loadVisual_vstate : (s.loadVisual v).vstate = v := rfl
@[simp] theorem State.loadVisual_vsUpd : (s.loadVisual v).vsUpd = true := rfl
@[simp] theorem State.loadVisual_host : (s.loadVisual v).host = s.host := rfl

end

/-! ### skipVisual -/

section
variable (s : State)

@[simp] theorem State.skipVisual_status : s.skipVisual.status = s.status := rfl
@[simp] theorem State.skipVisual_fault : s.skipVisual.fault = s.fault := rfl
@[simp] theorem State.skipVisual_rdata : s.skipVisual.rdata = s.rdata := rfl
@[simp] theorem State.skipVisual_addr : s.skipVisual.addr = s.addr := rfl
@[simp] theorem State.skipVisual_cframe : s.skipVisual.cframe = s.cframe := rfl
@[simp] theorem State.skipVisual_csum : s.skipVisual.csum = s.csum := rfl
@[simp] theorem State.skipVisual_vok : s.skipVisual.vok = s.vok := rfl
@[simp] theorem State.skipVisual_vsum : s.skipVisual.vsum = s.vsum := rfl
@[simp] theorem State.skipVisual_snap : s.skipVisual.snap = s.snap := rfl
@[simp] theorem State.skipVisual_baseRx : s.skipVisual.baseRx = s.baseRx := rfl
@[simp] theorem State.skipVisual_baseTx : s.skipVisual.baseTx = s.baseTx := rfl
@[simp] theorem State.skipVisual_baseValid : s.skipVisual.baseValid = s.baseValid := rfl
@[simp] theorem State.skipVisual_deltaRx : s.skipVisual.deltaRx = s.deltaRx := rfl
@[simp] theorem State.skipVisual_deltaTx : s.skipVisual.deltaTx = s.deltaTx := rfl
@[simp] theorem State.skipVisual_deltaValid : s.skipVisual.deltaValid = s.deltaValid := rfl
@[simp] theorem State.skipVisual_wrapRx : s.skipVisual.wrapRx = s.wrapRx := rfl
@[simp] theorem State.skipVisual_wrapTx : s.skipVisual.wrapTx = s.wrapTx := rfl
@[simp] theorem State.skipVisual_thLow : s.skipVisual.thLow = s.thLow := rfl
@[simp] theorem State.skipVisual_thMed : s.skipVisual.thMed = s.thMed := rfl
@[simp] theorem State.skipVisual_thHigh : s.skipVisual.thHigh = s.thHigh := rfl
@[simp] theorem State.skipVisual_thValid : s.skipVisual.thValid = s.thValid := rfl
@[simp] theorem State.skipVisual_vstate : s.skipVisual.vstate = s.vstate := rfl
@[simp] theorem State.skipVisual_vsUpd : s.skipVisual.vsUpd = false := rfl
@[simp] theorem State.skipVisual_host : s.skipVisual.host = s.host := rfl

end

/-! ### setHost -/

section
variable (s : State) (rest : List HostEvent)

@[simp] theorem State.setHost_status : (s.setHost rest).status = s.status := rfl
@[simp] theorem State.setHost_fault : (s.setHost rest).fault = s.fault := rfl
@[simp] theorem State.setHost_rdata : (s.setHost rest).rdata = s.rdata := rfl
@[simp] theorem State.setHost_addr : (s.setHost rest).addr = s.addr := rfl
@[simp] theorem State.setHost_cframe : (s.setHost rest).cframe = s.cframe := rfl
@[simp] theorem State.setHost_csum : (s.setHost rest).csum = s.csum := rfl
@[simp] theorem State.setHost_vok : (s.setHost rest).vok = s.vok := rfl
@[simp] theorem State.setHost_vsum : (s.setHost rest).vsum = s.vsum := rfl
@[simp] theorem State.setHost_snap : (s.setHost rest).snap = s.snap := rfl
@[simp] theorem State.setHost_baseRx : (s.setHost rest).baseRx = s.baseRx := rfl
@[simp] theorem State.setHost_baseTx : (s.setHost rest).baseTx = s.baseTx := rfl
@[simp] theorem State.setHost_baseValid : (s.setHost rest).baseValid = s.baseValid := rfl
@[simp] theorem State.setHost_deltaRx : (s.setHost rest).deltaRx = s.deltaRx := rfl
@[simp] theorem State.setHost_deltaTx : (s.setHost rest).deltaTx = s.deltaTx := rfl
@[simp] theorem State.setHost_deltaValid : (s.setHost rest).deltaValid = s.deltaValid := rfl
@[simp] theorem State.setHost_wrapRx : (s.setHost rest).wrapRx = s.wrapRx := rfl
@[simp] theorem State.setHost_wrapTx : (s.setHost rest).wrapTx = s.wrapTx := rfl
@[simp] theorem State.setHost_thLow : (s.setHost rest).thLow = s.thLow := rfl
@[simp] theorem State.setHost_thMed : (s.setHost rest).thMed = s.thMed := rfl
@[simp] theorem State.setHost_thHigh : (s.setHost rest).thHigh = s.thHigh := rfl
@[simp] theorem State.setHost_thValid : (s.setHost rest).thValid = s.thValid := rfl
@[simp] theorem State.setHost_vstate : (s.setHost rest).vstate = s.vstate := rfl
@[simp] theorem State.setHost_vsUpd : (s.setHost rest).vsUpd = s.vsUpd := rfl
@[simp] theorem State.setHost_host : (s.setHost rest).host = rest := rfl

end

end Sys2Proof.Machine
end

