-- ==== Sys2Proof/Laws/Words.lean ====
section
/-! SUPPORT. What the operand computations do, as numbers: byte order, the checksum, the counter delta, the comparison. -/

namespace Sys2Proof

/-! ### Byte order -/

theorem hiByte_toNat (v : Half) : (hiByte v).toNat = v.toNat / 256 := by
  simp [hiByte, BitVec.extractLsb'_toNat, Nat.shiftRight_eq_div_pow]
  omega

theorem loByte_toNat (v : Half) : (loByte v).toNat = v.toNat % 256 := by
  simp [loByte, BitVec.extractLsb'_toNat]

theorem be16_toNat (a b : Byte) : (be16 a b).toNat = a.toNat * 256 + b.toNat := by
  have := a.isLt
  have := b.isLt
  simp only [be16, beNat, List.foldl_cons, List.foldl_nil, BitVec.toNat_ofNat]
  omega

@[simp] theorem be16_hiByte_loByte (v : Half) : be16 (hiByte v) (loByte v) = v := by
  apply BitVec.eq_of_toNat_eq
  rw [be16_toNat, hiByte_toNat, loByte_toNat]
  omega

@[simp] theorem hiByte_be16 (a b : Byte) : hiByte (be16 a b) = a := by
  apply BitVec.eq_of_toNat_eq
  rw [hiByte_toNat, be16_toNat]
  have := b.isLt
  omega

@[simp] theorem loByte_be16 (a b : Byte) : loByte (be16 a b) = b := by
  apply BitVec.eq_of_toNat_eq
  rw [loByte_toNat, be16_toNat]
  have := b.isLt
  omega

/-- The byte of a 64-bit value at bit `k`. -/
theorem byte64_toNat (v : DWord) (k : Nat) : (v.extractLsb' k 8).toNat = v.toNat / 2 ^ k % 256 := by
  simp [BitVec.extractLsb'_toNat, Nat.shiftRight_eq_div_pow]

/-- The eight bytes of a 64-bit value weigh back to it. -/
theorem beNat_bytes64 (v : DWord) : beNat (bytes64 v) = v.toNat := by
  have := v.isLt
  simp only [beNat, bytes64, List.foldl_cons, List.foldl_nil, byte64_toNat]
  omega

/-- Eight bytes are the bytes of the value they weigh to. -/
theorem bytes64_beNat (a b c d e f g h : Byte) :
    bytes64 (BitVec.ofNat 64 (beNat [a, b, c, d, e, f, g, h])) = [a, b, c, d, e, f, g, h] := by
  have := a.isLt; have := b.isLt; have := c.isLt; have := d.isLt
  have := e.isLt; have := f.isLt; have := g.isLt; have := h.isLt
  simp only [bytes64, List.cons.injEq, and_true]
  refine ⟨?_, ?_, ?_, ?_, ?_, ?_, ?_, ?_⟩ <;> apply BitVec.eq_of_toNat_eq <;> rw [byte64_toNat] <;>
    simp only [beNat, List.foldl_cons, List.foldl_nil, BitVec.toNat_ofNat] <;> omega

/-- The two ways of weighing bytes agree. -/
theorem beNat_eq_bigEndian (bytes : List Byte) : beNat bytes = bigEndian bytes := by
  have step : ∀ (l : List Byte) (acc : Nat),
      l.foldl (fun acc b => acc * 256 + b.toNat) acc = acc * 256 ^ l.length + bigEndian l := by
    intro l
    induction l with
    | nil => intro acc; simp [bigEndian]
    | cons b rest ih => intro acc; rw [List.foldl_cons, ih, bigEndian, List.length_cons]; ring
  simpa [beNat] using step bytes 0

/-! ### The checksum -/

theorem sum9_le (f : Frame) : sum9 f ≤ 2295 := by
  have := f.b0.isLt; have := f.b1.isLt; have := f.b2.isLt; have := f.b3.isLt; have := f.b4.isLt
  have := f.b5.isLt; have := f.b6.isLt; have := f.b7.isLt; have := f.b8.isLt
  simp only [sum9]
  omega

/-- The bit-vector sum of a sealed or unsealed frame depends on the payload alone. -/
@[simp] theorem chk9_seal (f : Frame) : chk9 f.seal = chk9 f := rfl

/-! ### The op bytes -/

@[simp] theorem opOf_byte (op : Op) : opOf op.byte = some op := by cases op <;> decide

/-- An op byte that is known is the byte of its op. -/
theorem byte_of_opOf {b : Byte} {op : Op} (h : opOf b = some op) : b = op.byte := by
  have := List.find?_some h
  simpa using (beq_iff_eq.mp this).symm

/-- Every request has at least its op byte. -/
theorem Op.length_pos (op : Op) : 0 < op.length := by cases op <;> decide

/-! ### Flags -/

@[simp] theorem flagBit_flagByte (b : Bool) : flagBit (flagByte b) = b := by cases b <;> decide

@[simp] theorem reservedFlagBits_flagByte (b : Bool) : reservedFlagBits (flagByte b) = false := by cases b <;> decide

/-- A flags byte without reserved bits is the byte of its flag. -/
theorem flagByte_of_not_reserved {flags : Byte} (h : reservedFlagBits flags = false) : flagByte (flagBit flags) = flags := by
  revert flags
  decide

end Sys2Proof
end

