-- ==== Sys2Proof/Laws/Ops.lean ====
section
/-! SUPPORT. What each shared operation can do, said once. -/

namespace Sys2Proof.Machine

open Sys2Proof

/-! ### Codes -/

/-- A fault's code is 1 to 8. -/
theorem code_range (c : FaultCode) : 1 ≤ c.code.toNat ∧ c.code.toNat ≤ 8 := by cases c <;> decide

/-- A fault's code is not the code of success. -/
@[simp] theorem code_ne_zero (c : FaultCode) : c.code ≠ 0 := by cases c <;> decide

/-- The bit a fault sets is the bit below its code (R181). -/
theorem faultBit_eq (c : FaultCode) : faultBit c = 1#8 <<< (c.code.toNat - 1) := rfl

/-- The FAULT bit of the fault just raised is set (R24). -/
theorem raise_records (s : State) (c : FaultCode) : (s.raise c).fault.getLsbD (c.code.toNat - 1) = true := by
  cases c <;> simp [State.raise, faultBit, FaultCode.code]

/-- Raising a fault loses no FAULT bit (R182). -/
theorem raise_keeps_bits (s : State) (c : FaultCode) : s.fault &&& (s.raise c).fault = s.fault := by
  apply BitVec.eq_of_getLsbD_eq
  intro i _
  simp only [State.raise_fault, BitVec.getLsbD_and, BitVec.getLsbD_or]
  cases s.fault.getLsbD i <;> simp

/-! ### The two builds -/

/-- Building from four parameters loads the frame and completes, or faults BAD_LED_OP. -/
theorem buildFrame_cases (s : State) (addr opc p0 p1 p2 p3 : Byte) :
    (ledOpcodeLegal opc = true ∧
      s.buildFrame addr opc p0 p1 p2 p3 = (s.loadFrame addr (commandFrame opc p0 p1 p2 p3)).complete) ∨
    (ledOpcodeLegal opc = false ∧ s.buildFrame addr opc p0 p1 p2 p3 = s.raise .badLedOp) := by
  cases h : ledOpcodeLegal opc <;> simp [State.buildFrame, h]

/-- Building from times loads the frame and completes, or faults BAD_LED_OP. -/
theorem buildTimedFrame_cases (s : State) (addr opc : Byte) (tOn tOff : Half) :
    (ledOpcodeTimed opc = true ∧
      s.buildTimedFrame addr opc tOn tOff = (s.loadFrame addr (timedFrame opc tOn tOff)).complete) ∨
    (ledOpcodeTimed opc = false ∧ s.buildTimedFrame addr opc tOn tOff = s.raise .badLedOp) := by
  cases h : ledOpcodeTimed opc <;> simp [State.buildTimedFrame, h]

/-- The five LED opcodes, as numbers (R80). -/
theorem ledOpcodeLegal_iff (opc : Byte) : ledOpcodeLegal opc = true ↔ 1 ≤ opc.toNat ∧ opc.toNat ≤ 5 := by
  revert opc
  decide

/-- The two timed LED opcodes, as numbers (R80). -/
theorem ledOpcodeTimed_iff (opc : Byte) : ledOpcodeTimed opc = true ↔ opc.toNat = 4 ∨ opc.toNat = 5 := by
  revert opc
  decide

/-- A timed opcode is an LED opcode. -/
theorem ledOpcodeLegal_of_timed {opc : Byte} (h : ledOpcodeTimed opc = true) : ledOpcodeLegal opc = true := by
  rw [ledOpcodeTimed_iff] at h
  rw [ledOpcodeLegal_iff]
  omega

/-! ### Snapshots -/

/-- A snapshot is whole, from a frame that passed every check, or holds nothing but its reason (R114, R116). -/
theorem snapshotDecode_cases (rlen : Byte) (b : Frame) :
    (rlen = 11 ∧ verify11 11 b = true ∧ ∃ mode, modeOf b.b0 = some mode ∧ Snapshot.decode rlen b = Snapshot.ofFrame mode b) ∨
    (∃ reason, reason ≠ .none ∧ statusReason rlen b = reason ∧ Snapshot.decode rlen b = Snapshot.unavailable reason) := by
  have small : ∀ x : Byte, ¬ 3 < x.toNat → (modeOf x).isSome = true := by decide
  by_cases h1 : rlen = 11#8
  · subst h1
    cases h2 : verify11 (11#8) b with
    | false => refine .inr ⟨.checksum, by decide, ?_, ?_⟩ <;> simp [Snapshot.decode, statusReason, h2]
    | true =>
      by_cases h3 : 3 < b.b0.toNat
      · refine .inr ⟨.mode, by decide, ?_, ?_⟩ <;> simp [Snapshot.decode, statusReason, h2, h3]
      · obtain ⟨mode, hm⟩ := Option.isSome_iff_exists.mp (small _ h3)
        exact .inl ⟨rfl, rfl, mode, hm, by simp [Snapshot.decode, statusReason, h2, h3, hm]⟩
  · have hr : statusReason rlen b = .length := if_pos h1
    exact .inr ⟨.length, by decide, hr, by simp [Snapshot.decode, hr]⟩

end Sys2Proof.Machine
end

