-- ==== Sys2Proof/Laws/Exec.lean ====
section
/-! SUPPORT. What an instruction and a step can do, said once. -/

namespace Sys2Proof.Machine

open Sys2Proof

/-- How RD ends. -/
theorem execRd_cases {n : Byte} {s t : State} (h : execRd n s = .next t) :
    (∃ r, regOf n = some r ∧ t = (s.loadRData (s.read r)).complete) ∨ (regOf n = none ∧ t = s.raise .badReg) := by
  unfold execRd at h
  cases hr : regOf n with
  | some r => rw [hr] at h; exact .inl ⟨r, rfl, (Host.Outcome.next.inj h).symm⟩
  | none => rw [hr] at h; exact .inr ⟨rfl, (Host.Outcome.next.inj h).symm⟩

/-- How CTR_SAMPLE ends. -/
theorem execCtrSample_cases {short : Bool} {rx tx : DWord} {s t : State} (h : execCtrSample short rx tx s = .next t) :
    (s.baseValid = true ∧
      t = ((s.loadReading (wdelta rx s.baseRx) (wdelta tx s.baseTx) (deltaValidOf short) (wrapFlag rx s.baseRx)
        (wrapFlag tx s.baseTx)).loadBaseline rx tx).complete) ∨
    (s.baseValid = false ∧ t = s.raise .notInit) := by
  unfold execCtrSample at h
  cases hv : s.baseValid <;> rw [hv] at h
  · exact .inr ⟨rfl, (Host.Outcome.next.inj h).symm⟩
  · exact .inl ⟨rfl, (Host.Outcome.next.inj h).symm⟩

/-- How CLS_CLASSIFY ends. -/
theorem execClsClassify_cases {valid : Bool} {u : DWord} {s t : State} (h : execClsClassify valid u s = .next t) :
    (valid = false ∧ t = s.skipVisual.complete) ∨
    (valid = true ∧ s.thValid = false ∧ t = s.raise .notConfig) ∨
    (valid = true ∧ s.thValid = true ∧ isNaN u = true ∧ t = s.raise .usageNan) ∨
    (valid = true ∧ s.thValid = true ∧ isNaN u = false ∧
      t = (s.loadVisual (classify u s.thLow s.thMed s.thHigh)).complete) := by
  unfold execClsClassify at h
  cases valid with
  | false => exact .inl ⟨rfl, (Host.Outcome.next.inj h).symm⟩
  | true =>
    cases hv : s.thValid with
    | false =>
      rw [hv] at h
      exact .inr (.inl ⟨rfl, rfl, (Host.Outcome.next.inj h).symm⟩)
    | true =>
      rw [hv] at h
      cases hn : isNaN u with
      | true => rw [hn] at h; exact .inr (.inr (.inl ⟨rfl, rfl, rfl, (Host.Outcome.next.inj h).symm⟩))
      | false => rw [hn] at h; exact .inr (.inr (.inr ⟨rfl, rfl, rfl, (Host.Outcome.next.inj h).symm⟩))

/-- What an LED command runs is what its expansion runs (R86). -/
theorem exec_expand (i : Instr) (s : State) : exec i.expand s = exec i s := by cases i <;> rfl

/-- Every step is one of four: the ECB waits; the host resets it; a packet is refused with its fault; a packet runs as the
instruction it decodes to. -/
theorem step_cases {s : State} {o : Host.Outcome State Fault Refusal} (h : step s = o) :
    (s.host = [] ∧ o = .next s) ∨
    (∃ p rest, s.host = .reset p :: rest ∧ o = .next (State.reset.setHost rest)) ∨
    (∃ req rest e, s.host = .request req :: rest ∧ decode req = .error e ∧
      o = .next ((s.setHost rest).raise e.faultCode)) ∨
    (∃ req rest i, s.host = .request req :: rest ∧ decode req = .ok i ∧ o = exec i (s.setHost rest)) := by
  subst h
  unfold step stepHost
  cases hh : s.host with
  | nil => exact .inl ⟨rfl, rfl⟩
  | cons ev rest =>
    cases ev with
    | reset p => exact .inr (.inl ⟨p, rest, rfl, rfl⟩)
    | request req =>
      cases hd : decode req with
      | error e => exact .inr (.inr (.inl ⟨req, rest, e, rfl, hd, by simp [runEvent, runRequest, hd]⟩))
      | ok i => exact .inr (.inr (.inr ⟨req, rest, i, rfl, hd, by simp [runEvent, runRequest, hd]⟩))

/-- A request event's step is its packet's run. -/
theorem step_request {s : State} {req : List Byte} {rest : List HostEvent} (h : s.host = .request req :: rest) :
    step s = runRequest req (s.setHost rest) := by
  unfold step stepHost
  rw [h]
  rfl

/-- A packet's run, by what it decodes to. -/
theorem runRequest_error {req : List Byte} {e : DecodeError} (h : decode req = .error e) (s : State) :
    runRequest req s = .next (s.raise e.faultCode) := by simp [runRequest, h]

/-- A packet's run, by what it decodes to. -/
theorem runRequest_ok {req : List Byte} {i : Instr} (h : decode req = .ok i) (s : State) :
    runRequest req s = exec i s := by simp [runRequest, h]

end Sys2Proof.Machine
end

