-- ==== Sys2Proof/Laws/PerInstr.lean ====
section
/-! SUPPORT. The per-instruction family EncodeShape: the packet of every instruction begins with the op byte of its request
and is as long as that op byte says (spec 30_encoding.md R71, R73, R86). -/

namespace Sys2Proof.Laws.EncodeShape

open Sys2Proof

/-- The packet's head and length. -/
def Statement (i : Instr) : Prop := (encode i).head? = some i.op.byte ∧ (encode i).length = i.op.length

theorem nop : Statement .nop := ⟨rfl, rfl⟩
theorem rd (regnum : Byte) : Statement (.rd regnum) := ⟨rfl, rfl⟩
theorem frBuild (addr opc p0 p1 p2 p3 : Byte) : Statement (.frBuild addr opc p0 p1 p2 p3) := ⟨rfl, rfl⟩
theorem frBuildT (addr opc : Byte) (tOn tOff : Half) : Statement (.frBuildT addr opc tOn tOff) := ⟨rfl, rfl⟩
theorem frVerify (rlen : Byte) (b : Frame) : Statement (.frVerify rlen b) := ⟨rfl, rfl⟩
theorem frStatus (rlen : Byte) (b : Frame) : Statement (.frStatus rlen b) := ⟨rfl, rfl⟩
theorem ctrInit (rx tx : DWord) : Statement (.ctrInit rx tx) := ⟨rfl, rfl⟩
theorem ctrSample (short : Bool) (rx tx : DWord) : Statement (.ctrSample short rx tx) := ⟨rfl, rfl⟩
theorem clsSetth (low med high : Byte) : Statement (.clsSetth low med high) := ⟨rfl, rfl⟩
theorem clsClassify (valid : Bool) (usage : DWord) : Statement (.clsClassify valid usage) := ⟨rfl, rfl⟩
theorem brightness (addr level : Byte) : Statement (.brightness addr level) := ⟨rfl, rfl⟩
theorem rgb (addr r g b : Byte) : Statement (.rgb addr r g b) := ⟨rfl, rfl⟩
theorem onoff (addr : Byte) (on : Bool) : Statement (.onoff addr on) := ⟨rfl, rfl⟩
theorem blink (addr : Byte) (tOn tOff : Half) : Statement (.blink addr tOn tOff) := ⟨rfl, rfl⟩
theorem breath (addr : Byte) (tOn tOff : Half) : Statement (.breath addr tOn tOff) := ⟨rfl, rfl⟩

end Sys2Proof.Laws.EncodeShape
end

