-- ==== Sys2Proof/Tests/Slice0.lean ====
section
/-! SUPPORT. The model's own tests. Expected values are the spec's: 95_test_vectors.md and the examples of the request rules.
Each `witness_<Name>` meets every hypothesis of the obligation of that name, clause by clause. -/

namespace Sys2Proof.Tests

open Sys2Proof Sys2Proof.Machine

/-- The state after reset, with one packet for the host to send. -/
def sending (req : List Byte) : State := State.reset.setHost [.request req]

/-- The state an outcome goes on in. -/
def nextOf (o : Host.Outcome State Fault Refusal) : Option State :=
  match o with
  | .next s => some s
  | .fault _ => none
  | .refused _ => none

/-- One field of the state after one packet, from a state that holds it. -/
def after {α : Type} (s : State) (req : List Byte) (field : State → α) : Option α :=
  (nextOf (step (s.setHost [.request req]))).map field

/-- STATUS and FAULT. -/
def outcome (s : State) : Byte × Byte := (s.status, s.fault)

/-- Thresholds 10/40/80 are set. -/
def configured : State := State.reset.loadThresholds 10 40 80

/-- A baseline is set. -/
def based (rx tx : DWord) : State := (State.reset.loadBaseline rx tx).setBaseValid

/-! ### Well-formedness: one ill-formed term for each check, and the boundary beside it -/

theorem test_wf_refuses_reserved_register : (Instr.rd 0x02).wellFormed = false ∧ (Instr.rd 0x01).wellFormed = true := by decide
theorem test_wf_refuses_reserved_opcode :
    (Instr.frBuild 0 0x06 0 0 0 0).wellFormed = false ∧ (Instr.frBuild 0 0x05 0 0 0 0).wellFormed = true := by decide
theorem test_wf_refuses_untimed_opcode :
    (Instr.frBuildT 0 0x03 0 0).wellFormed = false ∧ (Instr.frBuildT 0 0x04 0 0).wellFormed = true := by decide

/-! ### Decoding: one packet written out from R72 for each request, one frame from R106 to R110 for each LED command -/

theorem test_decode_nop : decode [0x00] = .ok .nop := by decide
theorem test_decode_rd : decode [0x01, 0x41] = .ok (.rd 0x41) := by decide
theorem test_decode_fr_build : decode [0x10, 0x05, 0x03, 0x01, 0x02, 0x06, 0x07] = .ok (.frBuild 0x05 0x03 1 2 6 7) := by decide
theorem test_decode_fr_build_t : decode [0x11, 0x05, 0x04, 0x03, 0xE8, 0x01, 0x02] = .ok (.frBuildT 0x05 0x04 1000 258) := by decide
theorem test_decode_fr_verify :
    decode [0x12, 0x0B, 0xA0, 1, 2, 3, 4, 5, 6, 7, 8, 9, 0xA5] = .ok (.frVerify 11 ⟨0xA0, 1, 2, 3, 4, 5, 6, 7, 8, 9, 0xA5⟩) := by decide
theorem test_decode_fr_status :
    decode [0x13, 0x0A, 2, 0x80, 0xFF, 0, 1, 3, 0xE8, 1, 0xF4, 3, 0x61] =
      .ok (.frStatus 10 ⟨2, 0x80, 0xFF, 0, 1, 3, 0xE8, 1, 0xF4, 3, 0x61⟩) := by decide
theorem test_decode_ctr_init :
    decode [0x20, 0xFF, 0xFF, 0xFF, 0xFF, 0xFF, 0xFF, 0xFF, 0xCD, 0, 0, 0, 0, 0, 0, 3, 0xE8] =
      .ok (.ctrInit 0xFFFFFFFFFFFFFFCD 1000) := by decide
theorem test_decode_ctr_sample :
    decode [0x21, 1, 0, 0, 0, 0, 0, 0, 0, 0x14, 0, 0, 0, 0, 0, 0, 5, 0xDC] = .ok (.ctrSample true 20 1500) := by decide
theorem test_decode_cls_setth : decode [0x30, 0x0A, 0x28, 0x50] = .ok (.clsSetth 10 40 80) := by decide
theorem test_decode_cls_classify :
    decode [0x31, 1, 0x40, 0x2E, 0, 0, 0, 0, 0, 0] = .ok (.clsClassify true 0x402E000000000000) := by decide
theorem test_decode_brightness :
    decodeLedFrame 5 ⟨0xA0, 1, 0, 0, 1, 0x80, 0, 0, 0, 0x01, 0x22⟩ = .ok (.brightness 5 0x80) := by decide
theorem test_decode_rgb :
    decodeLedFrame 5 ⟨0xA0, 1, 0, 0, 2, 0xFF, 0x80, 0, 0, 0x02, 0x22⟩ = .ok (.rgb 5 0xFF 0x80 0) := by decide
theorem test_decode_onoff : decodeLedFrame 5 ⟨0xA0, 1, 0, 0, 3, 0, 0, 0, 0, 0x00, 0xA4⟩ = .ok (.onoff 5 false) := by decide
theorem test_decode_blink :
    decodeLedFrame 5 ⟨0xA0, 1, 0, 0, 4, 3, 0xE8, 1, 0xF4, 0x02, 0x85⟩ = .ok (.blink 5 500 500) := by decide
theorem test_decode_breath :
    decodeLedFrame 5 ⟨0xA0, 1, 0, 0, 5, 0, 1, 0xFF, 0xFF, 0x02, 0xA5⟩ = .ok (.breath 5 0xFFFF 2) := by decide
theorem test_decode_refuses_by_name :
    decode [] = .error .emptyRequest ∧ decode [0xFF, 0, 0] = .error (.illegalOp 0xFF) ∧
      decode [0x30, 0x0A, 0x28] = .error (.badLength .clsSetth 3) ∧
      decode [0x31, 3, 0x7F, 0xF8, 0, 0, 0, 0, 0, 0] = .error (.badField 3) := by decide
theorem test_led_frame_refuses_by_name :
    decodeLedFrame 0 ⟨0xA1, 1, 0, 0, 3, 0, 0, 0, 0, 0, 0xA5⟩ = .error .badHeader ∧
      decodeLedFrame 0 ⟨0xA0, 1, 0, 0, 3, 0, 0, 0, 0, 0, 0xA5⟩ = .error .badChecksum ∧
      decodeLedFrame 0 ⟨0xA0, 1, 0, 0, 6, 0, 0, 0, 0, 0, 0xA7⟩ = .error (.reservedOpcode 6) ∧
      decodeLedFrame 0 ⟨0xA0, 1, 0, 0, 3, 2, 0, 0, 0, 0, 0xA6⟩ = .error .badParameter := by decide
theorem test_stream_splits : splitStream [0x00, 0x01, 0x54, 0x30, 1, 2, 3] = .ok [[0x00], [0x01, 0x54], [0x30, 1, 2, 3]] := by decide
theorem test_stream_stops :
    splitStream [0x00, 0x02, 0x00] = .error (.illegalOp 0x02) ∧ splitStream [0x30, 1] = .error (.badLength .clsSetth 2) := by decide

/-! ### Table words -/

theorem test_table_words_of_requests :
    decodeTableWord 8 0x00 = some .nop ∧ decodeTableWord 8 0x10 = some (.frBuild 0 0 0 0 0 0) ∧
      decodeTableWord 16 0x4101 = some (.rd 0x41) ∧ decodeTableWord 8 0x31 = some (.clsClassify false 0) ∧
      decodeTableWord 8 0x02 = none := by decide
theorem test_table_words_of_led_frames :
    decodeTableWord 40 0xA001000001 = some (.brightness 0 0) ∧ decodeTableWord 40 0x02000001A0 = some (.rgb 0 0 0 0) ∧
      decodeTableWord 40 0xA001000003 = some (.onoff 0 false) ∧ decodeTableWord 88 0x04000001A0 = some (.blink 0 0 0) ∧
      decodeTableWord 40 0xA001000005 = some (.breath 0 0 0) ∧ decodeTableWord 40 0xA001000006 = none := by decide
theorem test_table_word_runs :
    (nextOf (step (State.reset.withFetchWord 40 0xA001000003))).map (·.cframe) =
      some ⟨0xA0, 1, 0, 0, 3, 0, 0, 0, 0, 0, 0xA4⟩ := by decide

/-! ### One step each -/

theorem test_nop_keeps_fault : after { State.reset with status := 3, fault := 4 } [0x00] outcome = some (0, 4) := by decide
theorem test_rd_reads_old_status : after { State.reset with status := 3 } [0x01, 0x00] (·.rdata) = some 3 := by decide
theorem test_rd_reserved : after State.reset [0x01, 0x02] outcome = some (7, 0x40) := by decide
theorem test_fr_build_largest :
    after State.reset [0x10, 0xFF, 0x05, 0xFF, 0xFF, 0xFF, 0xFF] (fun s => (s.addr, s.cframe, s.csum)) =
      some (0xFF, ⟨0xA0, 1, 0, 0, 5, 0xFF, 0xFF, 0xFF, 0xFF, 0x04, 0xA2⟩, 0x04A2) := by decide
theorem test_fr_build_reserved_opcode : after State.reset [0x10, 0, 0x06, 0, 0, 0, 0] outcome = some (3, 4) := by decide
theorem test_fr_build_t_wraps :
    after State.reset [0x11, 0, 0x04, 0x80, 0, 0x80, 0] (·.cframe) = some ⟨0xA0, 1, 0, 0, 4, 0, 0, 0x80, 0, 0x01, 0x25⟩ := by decide
theorem test_fr_build_t_untimed : after State.reset [0x11, 0, 0x03, 0, 1, 0, 1] outcome = some (3, 4) := by decide
theorem test_fr_verify_byte_order :
    after State.reset [0x12, 0x0B, 0xA0, 1, 0, 0, 1, 0x80, 0, 0, 0, 0x22, 0x01] (fun s => (s.vsum, s.vok)) =
      some (0x0122, false) := by decide
theorem test_fr_verify_largest :
    after State.reset [0x12, 0x0B, 0xFF, 0xFF, 0xFF, 0xFF, 0xFF, 0xFF, 0xFF, 0xFF, 0xFF, 0x08, 0xF7] (fun s => (s.vsum, s.vok)) =
      some (0x08F7, true) := by decide
theorem test_fr_status_wrapped_times :
    after State.reset [0x13, 0x0B, 3, 0x40, 0, 0, 0xFF, 0, 1, 0xFF, 0xFF, 0x03, 0x41] (·.snap) =
      some ⟨true, .none, .breath, 0x40, 0, 0, 0xFF, 1, 0xFFFF, 0xFFFF, 2, true⟩ := by decide
theorem test_fr_status_checksum_before_mode :
    after State.reset [0x13, 0x0B, 4, 0, 0, 0, 0, 0, 0, 0, 0, 0, 5] (·.snap) =
      some ⟨false, .checksum, .off, 0, 0, 0, 0, 0, 0, 0, 0, false⟩ := by decide
theorem test_ctr_init_clears_reading :
    after { based 10 1500 with deltaRx := 3, deltaValid := true, wrapTx := true }
        [0x20, 0, 0, 0, 0, 0, 0, 0, 7, 0, 0, 0, 0, 0, 0, 0, 9]
        (fun s => (s.baseRx, s.baseTx, s.deltaRx, s.deltaValid, s.wrapTx)) = some (7, 9, 0, false, false) := by decide
theorem test_ctr_sample_across_wrap :
    after (based 0xFFFFFFFFFFFFFFCD 1000) [0x21, 0, 0, 0, 0, 0, 0, 0, 0, 0x0A, 0, 0, 0, 0, 0, 0, 5, 0xDC]
        (fun s => (s.deltaRx, s.wrapRx, s.deltaTx, s.wrapTx, s.deltaValid, s.baseRx)) =
      some (60, true, 500, false, true, 10) := by decide
theorem test_ctr_sample_short_replaces_baseline :
    after (based 10 1500) [0x21, 1, 0, 0, 0, 0, 0, 0, 0, 0x14, 0, 0, 0, 0, 0, 0, 5, 0xDC]
        (fun s => (s.deltaValid, s.baseRx, s.baseTx)) = some (false, 20, 1500) := by decide
theorem test_cls_setth : after State.reset [0x30, 0x0A, 0x28, 0x50] (fun s => (s.thLow, s.thMed, s.thHigh, s.thValid)) =
    some (10, 40, 80, true) := by decide
/-- Table 2.6 rows 1 to 18, with thresholds 10/40/80. -/
theorem test_cls_classify_table :
    ([0x0000000000000000, 0x8000000000000000, 0x4023FAE147AE147B, 0x4024000000000000, 0x4043FEB851EB851F,
      0x4044000000000000, 0x4053FF5C28F5C28F, 0x4054000000000000, 0x4059000000000000, 0x4023FFFFFFFFFFFF,
      0x4024000000000001, 0x4062C00000000000, 0xC014000000000000, 0x7FF0000000000000, 0xFFF0000000000000,
      0x0000000000000001, 0x3FB999999999999A, 0x402E000000000000].map fun u => (classify u 10 40 80).code.toNat) =
      [0, 0, 0, 1, 1, 2, 2, 3, 3, 0, 1, 3, 0, 3, 0, 0, 0, 1] := by decide +kernel
/-- Table 2.6 rows 21 to 29. -/
theorem test_cls_classify_degenerate :
    [classify 0 0 40 80, classify 0 0 0 0, classify 0 0 0 5, classify 0x403E000000000000 50 20 80,
      classify 0x404E000000000000 50 20 80, classify 0x4024000000000000 10 10 80, classify 0x4044000000000000 10 40 40,
      classify 0x4059000000000000 10 40 101, classify 0x4059000000000000 255 255 255] =
      [.low, .high, .medium, .off, .medium, .medium, .high, .medium, .off] := by decide +kernel
theorem test_led_brightness :
    (nextOf (exec (.brightness 0x05 0x80) State.reset)).map (·.cframe) = some ⟨0xA0, 1, 0, 0, 1, 0x80, 0, 0, 0, 0x01, 0x22⟩ := by decide
theorem test_led_rgb :
    (nextOf (exec (.rgb 0x05 0xFF 0x80 0x00) State.reset)).map (·.cframe) = some ⟨0xA0, 1, 0, 0, 2, 0xFF, 0x80, 0, 0, 0x02, 0x22⟩ := by decide
theorem test_led_on :
    (nextOf (exec (.onoff 0x01 true) State.reset)).map (·.cframe) = some ⟨0xA0, 1, 0, 0, 3, 1, 0, 0, 0, 0x00, 0xA5⟩ := by decide
theorem test_led_blink :
    (nextOf (exec (.blink 0x05 500 500) State.reset)).map (·.cframe) = some ⟨0xA0, 1, 0, 0, 4, 3, 0xE8, 1, 0xF4, 0x02, 0x85⟩ := by decide
theorem test_led_breath :
    (nextOf (exec (.breath 0x05 0xFFFF 2) State.reset)).map (·.cframe) = some ⟨0xA0, 1, 0, 0, 5, 0, 1, 0xFF, 0xFF, 0x02, 0xA5⟩ := by decide
theorem test_gates_in_order :
    after State.reset [0x31, 1, 0x7F, 0xF8, 0, 0, 0, 0, 0, 0] outcome = some (5, 0x10) ∧
      after configured [0x31, 1, 0x7F, 0xF8, 0, 0, 0, 0, 0, 0] outcome = some (6, 0x20) ∧
      after State.reset [0x31, 3, 0x7F, 0xF8, 0, 0, 0, 0, 0, 0] outcome = some (8, 0x80) ∧
      after State.reset [0x31, 0, 0x7F, 0xF8, 0, 0, 0, 0, 0, 0] outcome = some (0, 0) := by decide
theorem test_reset_event :
    (nextOf (step (configured.setHost [.reset (some [0x00])]))).map (fun s => (s.thLow, s.thValid, s.status)) = some (0, false, 0) := by
  decide

/-! ### The assembler (R85, R86) -/

theorem test_assemble_decimal_usage :
    assemble "CLS_CLASSIFY 1, 9.99 ; source S5" = some (.clsClassify true 0x4023FAE147AE147B) := by decide +kernel
theorem test_assemble_special_usage :
    assemble "CLS_CLASSIFY 0, -inf" = some (.clsClassify false 0xFFF0000000000000) ∧
      assemble "CLS_CLASSIFY 1, raw(0x7FF8000000000000)" = assemble "CLS_CLASSIFY 1, nan" := by decide +kernel
theorem test_assemble_refuses_what_does_not_fit : assemble "RD 256" = none ∧ assemble "RD 0xFF" = some (.rd 0xFF) := by decide +kernel
theorem test_assemble_pseudo_request :
    (assemble "LED_RGB 0x05, 0x00, 0xFF, 0x00").map encode = some [0x10, 0x05, 0x02, 0x00, 0xFF, 0x00, 0x00] := by decide +kernel

/-! ### Witnesses: concrete states and operands that meet an obligation's hypotheses -/

theorem witness_NopClearsStatusOnly :
    (∀ s : State, exec .nop s = .next { s with status := 0 }) ∧ (sending [0x00]).host = [.request [0x00]] ∧
      (sending [0x00, 0x00]).host = [.request (0x00 :: [0x00])] ∧ [0x00#8].length ≠ 0 :=
  ⟨fun _ => rfl, rfl, rfl, by decide⟩
theorem witness_RdCopiesOldValueOrFaults :
    regOf 0x55 = some .vsUpd ∧ regOf 0x56 = none ∧ (sending [0x01, 0x55]).host = [.request [0x01, 0x55]] ∧
      (sending [0x01]).host = [.request (0x01 :: [])] ∧ ([] : List Byte).length ≠ 1 := by decide
/-- The numbers on both sides of every listed range. -/
theorem witness_RegisterMapReadsAllRegisters :
    (0x2A#8, State.reset.cframe.b10.setWidth 64) ∈ [(0x20#8, 0#64), (0x2A#8, 0#64)] ∧
      ([0x02#8, 0x0F, 0x14, 0x1F, 0x2B, 0x2F, 0x3C, 0x3F, 0x48, 0x4F, 0x56, 0xFF].all fun n =>
        !(decide (n.toNat ≤ 0x01 ∨ (0x10 ≤ n.toNat ∧ n.toNat ≤ 0x13) ∨ (0x20 ≤ n.toNat ∧ n.toNat ≤ 0x2A) ∨
          (0x30 ≤ n.toNat ∧ n.toNat ≤ 0x3B) ∨ (0x40 ≤ n.toNat ∧ n.toNat ≤ 0x47) ∨ (0x50 ≤ n.toNat ∧ n.toNat ≤ 0x55))) &&
        (regOf n).isNone) = true := by decide
theorem witness_RefusedRequestsInPriorityOrder :
    (sending []).host = [.request []] ∧
      ([0x02#8, 0x0F, 0x14, 0x1F, 0x22, 0x2F, 0x32, 0xFF].all fun op =>
        decide ((0x02 ≤ op.toNat ∧ op.toNat ≤ 0x0F) ∨ (0x14 ≤ op.toNat ∧ op.toNat ≤ 0x1F) ∨
          (0x22 ≤ op.toNat ∧ op.toNat ≤ 0x2F) ∨ 0x32 ≤ op.toNat)) = true ∧
      (sending [0xFF, 0x00]).host = [.request (0xFF :: [0x00])] ∧
      (sending [0x31]).host = [.request (0x31 :: [])] ∧ ([] : List Byte).length + 1 ≠ 10 ∧
      (sending (0x21 :: 0x02 :: List.replicate 16 0)).host = [.request (0x21 :: 0x02 :: List.replicate 16 0)] ∧
      (List.replicate 16 (0 : Byte)).length = 16 ∧ (0x02 : Byte).extractLsb' 1 7 ≠ 0 ∧
      (sending (0x31 :: 0x80 :: List.replicate 8 0)).host = [.request (0x31 :: 0x80 :: List.replicate 8 0)] ∧
      (List.replicate 8 (0 : Byte)).length = 8 ∧ (0x80 : Byte).extractLsb' 1 7 ≠ 0 ∧ State.reset.thValid = false := by decide
theorem witness_StepRunsTheDecodedRequest :
    (sending [0x01, 0x02]).host = [.request [0x01, 0x02]] ∧ decode [0x01, 0x02] = .ok (.rd 0x02) ∧
      (sending [0x02]).host = [.request [0x02]] ∧ decode [0x02] = .error (.illegalOp 0x02) ∧
      (State.reset.setHost [.reset none]).host = [.reset none] ∧ State.reset.host = [] := by decide
theorem witness_StepRunsEveryEncodedInstruction :
    (sending (encode (.breath 1 2 3))).host = [.request (encode (.breath 1 2 3))] := rfl
theorem witness_TableWordRunsAsItsInstruction : decodeTableWord 40 0xA001000002 = some (.rgb 0 0 0 0) := by decide
theorem witness_FrBuildWritesFrameOrFaults :
    (1 ≤ (0x01 : Byte).toNat ∧ (0x05 : Byte).toNat ≤ 5) ∧ 5 < (0x06 : Byte).toNat ∧
      (sending [0x10, 1, 2, 3, 4, 5, 6]).host = [.request [0x10, 1, 2, 3, 4, 5, 6]] ∧
      (sending [0x10, 0, 1, 0, 0, 0]).host = [.request (0x10 :: [0, 1, 0, 0, 0])] ∧ [0#8, 1, 0, 0, 0].length ≠ 6 := by decide
theorem witness_FrBuildTPacksTimesOrFaults :
    ((0x04 : Byte) = 0x04 ∨ (0x04 : Byte) = 0x05) ∧ ((0x05 : Byte) = 0x04 ∨ (0x05 : Byte) = 0x05) ∧
      ((0x03 : Byte) ≠ 0x04 ∧ (0x03 : Byte) ≠ 0x05) ∧ (0x06 : Byte) ≠ 0x05 ∧
      (sending [0x11, 1, 4, 3, 4, 5, 6]).host = [.request [0x11, 1, 4, 3, 4, 5, 6]] ∧
      (sending [0x11]).host = [.request (0x11 :: [])] ∧ ([] : List Byte).length ≠ 6 := by decide
theorem witness_ReservedLedOpcodesFault :
    (0x06 ≤ (0x06 : Byte).toNat ∧ 0x06 ≤ (0xFF : Byte).toNat) ∧ 0x01 ≤ (0x01 : Byte).toNat ∧ (0x03 : Byte).toNat ≤ 0x03 := by decide
theorem witness_FrVerifyWritesSumAndVerdict :
    (sending [0x12, 11, 1, 2, 3, 4, 5, 6, 7, 8, 9, 0, 45]).host = [.request [0x12, 11, 1, 2, 3, 4, 5, 6, 7, 8, 9, 0, 45]] ∧
      (sending [0x12, 11]).host = [.request (0x12 :: [11])] ∧ [11#8].length ≠ 12 := by decide
/-- The reasons LENGTH, CHECKSUM and MODE (mode 4), and a whole snapshot of mode 3. -/
theorem witness_FrStatusDecodesWholeSnapshotOrNone :
    (10 : Byte) ≠ 11 ∧
      ¬ (BitVec.ofNat 16 (sum9 ⟨4, 0, 0, 0, 0, 0, 0, 0, 0, 0, 5⟩) = BitVec.ofNat 16 (bigEndian [0, 5])) ∧
      (BitVec.ofNat 16 (sum9 ⟨4, 0, 0, 0, 0, 0, 0, 0, 0, 0, 4⟩) = BitVec.ofNat 16 (bigEndian [0, 4]) ∧ 3 < (4 : Byte).toNat) ∧
      (BitVec.ofNat 16 (sum9 ⟨3, 0, 0, 0, 0, 0, 1, 0, 2, 0, 6⟩) ≠ 0 ∧
        BitVec.ofNat 16 (sum9 ⟨3, 0, 0, 0, 0, 0, 1, 0, 2, 0, 6⟩) = BitVec.ofNat 16 (bigEndian [0, 6])) ∧
      (sending [0x13, 11, 1, 2, 3, 4, 5, 6, 7, 8, 9, 0, 45]).host = [.request [0x13, 11, 1, 2, 3, 4, 5, 6, 7, 8, 9, 0, 45]] ∧
      (sending [0x13, 11]).host = [.request (0x13 :: [11])] ∧ [11#8].length ≠ 12 := by decide
theorem witness_BuiltChecksumStaysInRange :
    (Instr.frBuild 0 1 0 0 0 0).op = .frBuild ∧
      exec (.frBuild 0 1 0 0 0 0) State.reset = .next (State.reset.buildFrame 0 1 0 0 0 0) ∧
      (State.reset.buildFrame 0 1 0 0 0 0).status = 0 := ⟨rfl, rfl, by decide⟩
theorem witness_BuiltFramesPassVerification :
    (Instr.breath 0 0xFFFF 2).op = .frBuildT ∧
      exec (.breath 0 0xFFFF 2) State.reset = .next (State.reset.buildTimedFrame 0 5 0xFFFF 2) ∧
      (State.reset.buildTimedFrame 0 5 0xFFFF 2).status = 0 := ⟨rfl, rfl, by decide⟩
/-- Times that wrap, carried by a status frame of mode 2. -/
theorem witness_PackedTimesDecodeToThemselves :
    ∃ t u : State, exec (.frBuildT 5 4 0xFFFF 2) State.reset = .next t ∧ t.status = 0 ∧
      t.cframe.b5 = 0 ∧ t.cframe.b6 = 1 ∧ t.cframe.b7 = 0xFF ∧ t.cframe.b8 = 0xFF ∧
      exec (.frStatus 11 ⟨2, 0, 0, 0, 0, 0, 1, 0xFF, 0xFF, 0x02, 0x01⟩) t = .next u ∧ u.snap.avail = true :=
  ⟨_, _, rfl, by decide, by decide, by decide, by decide, by decide, rfl, by decide⟩
theorem witness_CtrInitTakesBaseline :
    (sending [0x20, 1, 2, 3, 4, 5, 6, 7, 8, 9, 10, 11, 12, 13, 14, 15, 16]).host =
        [.request [0x20, 1, 2, 3, 4, 5, 6, 7, 8, 9, 10, 11, 12, 13, 14, 15, 16]] ∧
      (sending [0x20, 1]).host = [.request (0x20 :: [1])] ∧ [1#8].length ≠ 16 := by decide
theorem witness_CtrSampleReplacesBaselineOrFaults :
    (based 5 5).baseValid = true ∧ State.reset.baseValid = false ∧
      (sending [0x21, 1, 1, 2, 3, 4, 5, 6, 7, 8, 9, 10, 11, 12, 13, 14, 15, 16]).host =
        [.request [0x21, 1, 1, 2, 3, 4, 5, 6, 7, 8, 9, 10, 11, 12, 13, 14, 15, 16]] ∧
      (1 : Byte).extractLsb' 1 7 = 0 ∧
      (sending (0x21 :: 0x02 :: List.replicate 16 0)).host = [.request (0x21 :: 0x02 :: List.replicate 16 0)] ∧
      (List.replicate 16 (0 : Byte)).length = 16 ∧ (0x02 : Byte).extractLsb' 1 7 ≠ 0 ∧
      (sending [0x21, 0]).host = [.request (0x21 :: [0])] ∧ [0#8].length ≠ 17 := by decide
/-- Equal counters, and the two ends of a wrap. -/
theorem witness_WdeltaIsTheSourceFormula :
    (5 : DWord).toNat ≤ (5 : DWord).toNat ∧ (0 : DWord).toNat < (0xFFFFFFFFFFFFFFFF : DWord).toNat ∧
      wdelta 0 0xFFFFFFFFFFFFFFFF = 0 ∧ wdelta 0xFFFFFFFFFFFFFFFF 0 = 0xFFFFFFFFFFFFFFFF := by decide
theorem witness_ShortIntervalIsNeverValid :
    (based 0 0).baseValid = true ∧ hostShort 99 = true ∧ hostShort 100 = false := by decide
theorem witness_ClsSetthStoresAnyThresholds :
    (sending [0x30, 255, 20, 101]).host = [.request [0x30, 255, 20, 101]] ∧
      (sending [0x30]).host = [.request (0x30 :: [])] ∧ ([] : List Byte).length ≠ 3 := by decide
/-- A NaN, and the infinity beside it. -/
theorem witness_ClsClassifyBandsTheUsage :
    configured.thValid = true ∧ State.reset.thValid = false ∧
      (((0x7FF0000000000001 : DWord).extractLsb' 52 11).toNat = 0x7FF ∧ (0x7FF0000000000001 : DWord).extractLsb' 0 52 ≠ 0) ∧
      ¬ (((0x7FF0000000000000 : DWord).extractLsb' 52 11).toNat = 0x7FF ∧ (0x7FF0000000000000 : DWord).extractLsb' 0 52 ≠ 0) ∧
      (sending [0x31, 1]).host = [.request (0x31 :: [1])] ∧ [1#8].length ≠ 9 ∧
      (sending (0x31 :: 0x80 :: List.replicate 8 0)).host = [.request (0x31 :: 0x80 :: List.replicate 8 0)] ∧
      (0x80 : Byte).extractLsb' 1 7 ≠ 0 ∧
      (sending [0x31, 1, 1, 2, 3, 4, 5, 6, 7, 8]).host = [.request [0x31, 1, 1, 2, 3, 4, 5, 6, 7, 8]] ∧
      (1 : Byte).extractLsb' 1 7 = 0 := by decide
theorem witness_ComparisonIsExactOnRealValues :
    ((0x7FEFFFFFFFFFFFFF : DWord).extractLsb' 52 11).toNat ≠ 0x7FF := by decide
/-- 10.0 sits on the boundary of the first two bands. -/
theorem witness_OrderedThresholdsGiveHalfOpenBands :
    ((0x4024000000000000 : DWord).extractLsb' 52 11).toNat ≠ 0x7FF ∧ (10 : Byte).toNat ≤ (40 : Byte).toNat ∧
      (40 : Byte).toNat ≤ (101 : Byte).toNat ∧ 0 ≤ ieeeValue 0x4024000000000000 ∧ ieeeValue 0x4024000000000000 ≤ 100 ∧
      100 < (101 : Byte).toNat := by
  have h : ieeeValue 0x4024000000000000 = 10 := by
    have e : ((0x4024000000000000 : DWord).extractLsb' 52 11).toNat = 1026 := by decide
    have f : ((0x4024000000000000 : DWord).extractLsb' 0 52).toNat = 2 ^ 50 := by decide
    have g : (0x4024000000000000 : DWord).getLsbD 63 = false := by decide
    unfold ieeeValue
    rw [e, f, g]
    norm_num
  rw [h]
  refine ⟨by decide, by decide, by decide, by norm_num, by norm_num, by decide⟩
/-- 0, 50 and 80 sit on the boundaries the clauses name. -/
theorem witness_DegenerateThresholdsFollowTheChain :
    ieeeValue 0 = 0 ∧ ieeeValue 0x4049000000000000 = 50 ∧ ieeeValue 0x4054000000000000 = 80 ∧
      ((0x4049000000000000 : DWord).extractLsb' 52 11).toNat ≠ 0x7FF ∧ (20 : Byte).toNat ≤ (50 : Byte).toNat ∧
      0 < (40 : Byte).toNat := by
  have e : ((0x4049000000000000 : DWord).extractLsb' 52 11).toNat = 1028 := by decide
  have f : ((0x4049000000000000 : DWord).extractLsb' 0 52).toNat = 9 * 2 ^ 48 := by decide
  have g : (0x4049000000000000 : DWord).getLsbD 63 = false := by decide
  have e' : ((0x4054000000000000 : DWord).extractLsb' 52 11).toNat = 1029 := by decide
  have f' : ((0x4054000000000000 : DWord).extractLsb' 0 52).toNat = 2 ^ 50 := by decide
  have g' : (0x4054000000000000 : DWord).getLsbD 63 = false := by decide
  refine ⟨?_, ?_, ?_, by decide, by decide, by decide⟩
  · simp [ieeeValue]
  · unfold ieeeValue
    rw [e, f, g]
    norm_num
  · unfold ieeeValue
    rw [e', f', g']
    norm_num
theorem witness_FaultsArePrecise :
    exec (.rd 0x02) State.reset = .next (State.reset.raise .badReg) ∧ (State.reset.raise .badReg).status ≠ 0 ∧
      (sending []).host = [.request []] ∧ step (sending []) = .next (State.reset.raise .badLen) := ⟨rfl, by decide, rfl, rfl⟩
theorem witness_FaultBitsAreSticky :
    (sending [0x00]).host = [.request [0x00]] ∧ step (sending [0x00]) = .next State.reset ∧
      step { sending [0x00] with status := 5 } = .next State.reset ∧
      (State.reset.setHost [.reset none]).host = [.reset none] := ⟨rfl, rfl, rfl, rfl⟩
theorem witness_StatusHoldsALegalCode :
    (sending [0x02]).host = [.request [0x02]] ∧ step (sending [0x02]) = .next (State.reset.raise .illegalOp) := ⟨rfl, rfl⟩
/-- A reset during a request, and a reset that clears a FAULT bit. -/
theorem witness_ResetClearsEveryRegister :
    (State.reset.setHost [.reset (some [0x00])]).host = [.reset (some [0x00])] ∧
      step { State.reset with fault := 1, host := [.reset none] } = .next State.reset ∧
      (1 : Byte) &&& State.reset.fault ≠ 1 := ⟨rfl, rfl, by decide⟩
theorem witness_CompletingRequestsWriteOnlyTheirColumn :
    exec (.clsSetth 1 2 3) State.reset = .next (State.reset.loadThresholds 1 2 3) ∧
      (State.reset.loadThresholds 1 2 3).status = 0 ∧ Reg.vstate ∉ writesOf (.clsSetth 1 2 3) := ⟨rfl, rfl, by decide⟩
/-- Two states that differ outside the "reads" column. -/
theorem witness_EffectsDependOnlyOnReadColumn :
    (∀ r ∈ readsOf (.ctrSample false 7 9), (based 5 6).read r = { based 5 6 with vsum := 3, fault := 1 }.read r) ∧
      (nextOf (exec (.ctrSample false 7 9) (based 5 6))).isSome = true ∧
      (nextOf (exec (.ctrSample false 7 9) { based 5 6 with vsum := 3, fault := 1 })).isSome = true := by decide
theorem witness_RepeatedRequestsChangeNothingMore :
    exec (.rd 0x01) State.reset = .next State.reset ∧ State.reset.status = 0 ∧
      (∀ short rx tx, Instr.rd 0x01 ≠ .ctrSample short rx tx) ∧ Instr.rd 0x01 ≠ .rd 0x00 :=
  ⟨rfl, rfl, fun _ _ _ => Instr.noConfusion, by decide⟩
theorem witness_GatesAndResultsHaveOneWriter :
    exec (.ctrInit 0 0) State.reset = .next (based 0 0) ∧ (based 0 0).baseValid ≠ State.reset.baseValid ∧
      exec (.clsSetth 10 40 80) State.reset = .next configured ∧ configured.thValid ≠ State.reset.thValid ∧
      exec (.rd 0x50) configured = .next { configured with rdata := 10 } ∧ ((10 : DWord) ≠ configured.rdata) ∧
      exec (.clsClassify true 0x7FF0000000000000) configured = .next { configured with vstate := .high, vsUpd := true } :=
  ⟨rfl, by decide, rfl, by decide, rfl, by decide, rfl⟩
/-- A legal state with thresholds set, and a step from it. -/
theorem witness_EveryStepKeepsLegalState : configured.Inv ∧ step configured = .next configured := by
  refine ⟨⟨by decide, by decide, .inl ⟨rfl, rfl⟩, by decide, by decide, ?_, by decide, by decide, by decide, by decide⟩, rfl⟩
  unfold snapshotLegal
  decide
theorem witness_DecodeInvertsEncode :
    (Instr.rd 3).isRequest = true ∧ decode [0x01, 0x03] = .ok (.rd 3) := by decide
theorem witness_BuiltLedFramesReadBack :
    (Instr.onoff 5 true).isRequest = false ∧ exec (.onoff 5 true) State.reset = .next (State.reset.buildFrame 5 3 1 0 0 0) ∧
      decodeLedFrame 5 ⟨0xA0, 1, 0, 0, 3, 1, 0, 0, 0, 0, 0xA5⟩ = .ok (.onoff 5 true) := ⟨by decide, rfl, by decide⟩
theorem witness_StreamsSplitIntoTheirRequests :
    (∀ req ∈ ([[0x01, 0x02], [0x00]] : List (List Byte)), ∃ (b : Byte) (body : List Byte) (op : Op),
      req = b :: body ∧ opOf b = some op ∧ req.length = op.length) ∧ opOf 0x02 = none := by
  refine ⟨?_, by decide⟩
  intro req h
  simp only [List.mem_cons, List.not_mem_nil, or_false] at h
  rcases h with rfl | rfl
  · exact ⟨0x01, [0x02], .rd, rfl, by decide, rfl⟩
  · exact ⟨0x00, [], .nop, rfl, by decide, rfl⟩

end Sys2Proof.Tests
end

section
/-! The register map of 10_state.md R46: what RD does for each number, and that the map and its reserved numbers are as
R46 and R77 list them. -/

namespace Sys2Proof.Machine

open Sys2Proof

/-! ### RD -/

/-- R101: RD of a listed number copies the register and completes. -/
theorem exec_rd_listed {n : Byte} {r : Reg} (h : regOf n = some r) (s : State) :
    exec (.rd n) s = .next { s with rdata := s.read r, status := 0 } := by
  simp [exec, execRd, h, State.loadRData, State.complete]

/-- R77: RD of a reserved number faults BAD_REG. -/
theorem exec_rd_reserved {n : Byte} (h : regOf n = none) (s : State) :
    exec (.rd n) s = .next (s.raise .badReg) := by
  simp [exec, execRd, h]

/-! ### The map -/

/-- No number stands twice in the map, so looking a row's number up gives that row's register. -/
theorem regOf_of_mem_regTable : ∀ row ∈ regTable, regOf row.1 = some row.2 := by decide

/-- R77: the reserved numbers are those outside the ranges of R46. -/
theorem regOf_eq_none_iff (n : Byte) :
    regOf n = none ↔
      ¬ (n.toNat ≤ 0x01 ∨ (0x10 ≤ n.toNat ∧ n.toNat ≤ 0x13) ∨ (0x20 ≤ n.toNat ∧ n.toNat ≤ 0x2A) ∨
        (0x30 ≤ n.toNat ∧ n.toNat ≤ 0x3B) ∨ (0x40 ≤ n.toNat ∧ n.toNat ≤ 0x47) ∨ (0x50 ≤ n.toNat ∧ n.toNat ≤ 0x55)) := by
  revert n
  decide

/-- Every register reads 0 after reset (R201). -/
@[simp] theorem read_reset (r : Reg) : State.reset.read r = 0 := by
  cases r with
  | cframe i => revert i; decide
  | _ => rfl

/-! ### The values of the map -/

/-- Each number of the map with the value RD gives for it in a state. -/
def State.readings (s : State) : List (Byte × DWord) := regTable.map fun row => (row.1, s.read row.2)

theorem exists_reg_of_mem_readings {s : State} {n : Byte} {v : DWord} (h : (n, v) ∈ s.readings) :
    ∃ r, regOf n = some r ∧ s.read r = v := by
  obtain ⟨row, hrow, hval⟩ := List.mem_map.mp h
  obtain ⟨rfl, rfl⟩ := Prod.mk.inj hval
  exact ⟨row.2, regOf_of_mem_regTable row hrow, rfl⟩

/-- ST_REASON as RD gives it (R84). -/
theorem reason_code_setWidth (r : StatusReason) :
    r.code.setWidth 64 = match r with | .none => 0#64 | .length => 1 | .checksum => 2 | .mode => 3 := by
  cases r <;> rfl

/-- ST_MODE as RD gives it (R82). -/
theorem mode_code_setWidth (m : LedMode) :
    m.code.setWidth 64 = match m with | .off => 0#64 | .on => 1 | .blink => 2 | .breath => 3 := by
  cases m <;> rfl

/-- VSTATE as RD gives it (R83). -/
theorem visual_code_setWidth (v : VisualState) :
    v.code.setWidth 64 = match v with | .off => 0#64 | .low => 1 | .medium => 2 | .high => 3 := by
  cases v <;> rfl

/-- Settles O3: the list of the statement is `State.readings` written out, and the numbers outside its ranges are those
the map does not name. -/
theorem registerMapReadsAllRegisters : Obligations.RegisterMapReadsAllRegisters := by
  unfold Obligations.RegisterMapReadsAllRegisters
  refine ⟨fun s n v hlisted => ?_, fun s n hreserved => ?_⟩
  · have hread : (n, v) ∈ s.readings := by
      simp only [State.readings, regTable, regTableFramer, regTableSnapshot, regTableUnits, List.cons_append,
        List.nil_append, List.map_cons, List.map_nil, State.read, reason_code_setWidth, mode_code_setWidth,
        visual_code_setWidth]
      exact hlisted
    obtain ⟨r, hr, rfl⟩ := exists_reg_of_mem_readings hread
    exact ⟨exec_rd_listed hr s, by rw [exec_rd_listed hr, read_reset]; rfl⟩
  · exact exec_rd_reserved ((regOf_eq_none_iff n).mpr hreserved) s

end Sys2Proof.Machine
end

section
/-! The encodings of 30_encoding.md: the shared checks of the request interface in the order of 60_exceptions.md R183,
the LED opcodes the two builds refuse (R80), and the pseudo-requests (R86). -/

namespace Sys2Proof

/-! ### What a refused packet decodes to, check by check (R183, 1 to 4) -/

/-- R76: the reserved op bytes are those outside the ranges of R71. -/
theorem opOf_eq_none_iff (b : Byte) :
    opOf b = none ↔
      (0x02 ≤ b.toNat ∧ b.toNat ≤ 0x0F) ∨ (0x14 ≤ b.toNat ∧ b.toNat ≤ 0x1F) ∨
        (0x22 ≤ b.toNat ∧ b.toNat ≤ 0x2F) ∨ 0x32 ≤ b.toNat := by
  revert b
  decide

/-- R71: each row of the op byte map is some op's byte and length. -/
theorem exists_op_of_mem_opTable {b : Byte} {n : Nat}
    (h : (b, n) ∈ allOps.map fun op => (op.byte, op.length)) : ∃ op, opOf b = some op ∧ op.length = n := by
  obtain ⟨op, -, hrow⟩ := List.mem_map.mp h
  obtain ⟨rfl, rfl⟩ := Prod.mk.inj hrow
  exact ⟨op, opOf_byte op, rfl⟩

/-- A reserved op byte is refused at any length (R76). -/
theorem decode_illegalOp {b : Byte} (h : opOf b = none) (body : List Byte) :
    decode (b :: body) = .error (.illegalOp b) := by
  simp [decode, h]

/-- A wrong length is refused whatever the bytes after the op byte are (R73). -/
theorem decode_badLength {b : Byte} {op : Op} {body : List Byte} (h : opOf b = some op)
    (hlen : body.length + 1 ≠ op.length) : decode (b :: body) = .error (.badLength op (body.length + 1)) := by
  simp [decode, h, hlen]

/-- Reserved flags bits are refused in a packet of the right length (R74). -/
theorem decode_badField {b : Byte} {op : Op} {body : List Byte} (h : opOf b = some op)
    (hlen : body.length + 1 = op.length) (hbad : hasBadField op (b :: body) = true) :
    decode (b :: body) = .error (.badField (byteAt (b :: body) 1)) := by
  simp [decode, h, hlen, hbad]

/-- The reserved flags bits are bits 7:1 (R74). -/
theorem reservedFlagBits_eq_true_iff (flags : Byte) :
    reservedFlagBits flags = true ↔ flags.extractLsb' 1 7 ≠ 0 := by
  simp [reservedFlagBits]

end Sys2Proof

namespace Sys2Proof.Machine

open Sys2Proof

/-! ### What a refused packet does to the state -/

/-- R181: a packet the shared checks refuse loses its place in the host's list and raises its fault. -/
theorem step_refused {s : State} {req : List Byte} {rest : List HostEvent} {e : DecodeError}
    (hhost : s.host = .request req :: rest) (hdec : decode req = .error e) :
    step s = .next ((s.setHost rest).raise e.faultCode) := by
  rw [step_request hhost, runRequest_error hdec]

/-- R183: with no threshold set, NOT_CONFIG, whether or not the usage is a NaN. -/
theorem exec_clsClassify_notConfig {s : State} (h : s.thValid = false) (u : DWord) :
    exec (.clsClassify true u) s = .next (s.raise .notConfig) := by
  simp [exec, execClsClassify, h]

/-- Settles O4: each clause is one of the shared checks of `decode`, in its order, and `step_refused` says what its
refusal does; the last is NOT_CONFIG's. -/
theorem refusedRequestsInPriorityOrder : Obligations.RefusedRequestsInPriorityOrder := by
  unfold Obligations.RefusedRequestsInPriorityOrder
  refine ⟨fun s rest hhost => ?empty, fun s rest op body hhost hreserved => ?illegalOp,
    fun s rest op n body hhost hrow hlen => ?badLength, fun s rest flags body hhost hlen hflags => ?sampleFlags,
    fun s rest flags body hhost hlen hflags => ?classifyFlags, fun s u hunset => ?notConfig⟩
  case empty => exact step_refused hhost rfl
  case illegalOp => exact step_refused hhost (decode_illegalOp ((opOf_eq_none_iff op).mpr hreserved) body)
  case badLength =>
    obtain ⟨o, ho, rfl⟩ := exists_op_of_mem_opTable hrow
    exact step_refused hhost (decode_badLength ho hlen)
  case sampleFlags =>
    have hbad : hasBadField .ctrSample (0x21 :: flags :: body) = true :=
      (reservedFlagBits_eq_true_iff flags).mpr hflags
    exact step_refused hhost (decode_badField (opOf_byte .ctrSample) (by simp [hlen, Op.length]) hbad)
  case classifyFlags =>
    have hbad : hasBadField .clsClassify (0x31 :: flags :: body) = true :=
      (reservedFlagBits_eq_true_iff flags).mpr hflags
    exact step_refused hhost (decode_badField (opOf_byte .clsClassify) (by simp [hlen, Op.length]) hbad)
  case notConfig => exact exec_clsClassify_notConfig hunset u

/-! ### The LED opcodes the builds refuse -/

/-- FR_BUILD of an LED opcode the source does not name (R80, R102). -/
theorem exec_frBuild_reserved {opc : Byte} (h : ¬ (1 ≤ opc.toNat ∧ opc.toNat ≤ 5)) (s : State)
    (addr p0 p1 p2 p3 : Byte) : exec (.frBuild addr opc p0 p1 p2 p3) s = .next (s.raise .badLedOp) := by
  obtain ⟨hlegal, -⟩ | ⟨-, hfault⟩ := buildFrame_cases s addr opc p0 p1 p2 p3
  · exact absurd ((ledOpcodeLegal_iff opc).mp hlegal) h
  · exact congrArg Host.Outcome.next hfault

/-- FR_BUILD_T of an LED opcode that is neither BLINK's nor BREATH's (R80, R111). -/
theorem exec_frBuildT_untimed {opc : Byte} (h : ¬ (opc.toNat = 4 ∨ opc.toNat = 5)) (s : State) (addr : Byte)
    (tOn tOff : Half) : exec (.frBuildT addr opc tOn tOff) s = .next (s.raise .badLedOp) := by
  obtain ⟨htimed, -⟩ | ⟨-, hfault⟩ := buildTimedFrame_cases s addr opc tOn tOff
  · exact absurd ((ledOpcodeTimed_iff opc).mp htimed) h
  · exact congrArg Host.Outcome.next hfault

/-- Settles O11: no reserved opcode is among the five of FR_BUILD, and none below 4 among the two of FR_BUILD_T. -/
theorem reservedLedOpcodesFault : Obligations.ReservedLedOpcodesFault := by
  unfold Obligations.ReservedLedOpcodesFault
  refine ⟨fun s addr opc p0 p1 p2 p3 tOn tOff hreserved => ?_, fun s addr opc tOn tOff hlow hhigh => ?_⟩
  · have hnum : opc.toNat = 0 ∨ 6 ≤ opc.toNat := hreserved.imp_left (congrArg BitVec.toNat)
    exact ⟨exec_frBuild_reserved (by omega) s addr p0 p1 p2 p3, exec_frBuildT_untimed (by omega) s addr tOn tOff⟩
  · exact exec_frBuildT_untimed (by omega) s addr tOn tOff

end Sys2Proof.Machine

namespace Sys2Proof

/-! ### The pseudo-requests (R86) -/

/-- An LED command is sent as the packet of its expansion. -/
theorem encode_expand (i : Instr) : encode i.expand = encode i := by cases i <;> rfl

/-- Two lines have one packet where the second's instruction is the expansion of the first's. -/
theorem map_encode_eq_of_map_expand {pseudo request : Option Instr} (h : pseudo.map Instr.expand = request) :
    pseudo.map encode = request.map encode := by
  subst h
  cases pseudo with
  | none => rfl
  | some i => exact congrArg some (encode_expand i).symm

/-- The texts R86 writes for fixed operands, read as bytes. -/
theorem parseField_fixedOperands :
    parseField 8 ['0'] = some 0 ∧ parseField 8 ['1'] = some 1 ∧
      parseField 8 ['0', 'x', '0', '1'] = some ledBrightness ∧ parseField 8 ['0', 'x', '0', '2'] = some ledRgb ∧
      parseField 8 ['0', 'x', '0', '3'] = some ledOnoff ∧ parseField 8 ['0', 'x', '0', '4'] = some ledBlink ∧
      parseField 8 ['0', 'x', '0', '5'] = some ledBreath := by decide

/-! Each row's two lines read the same operands in the same order, so they are refused together or read together. -/

theorem ledBright_expand (a level : List Char) :
    (assembleFields "LED_BRIGHT" [a, level]).map Instr.expand =
      assembleFields "FR_BUILD" [a, ['0', 'x', '0', '1'], level, ['0'], ['0'], ['0']] := by
  simp [assembleFields, Instr.expand, parseField_fixedOperands, Option.map_bind, Function.comp_def]

theorem ledRgb_expand (a r g b : List Char) :
    (assembleFields "LED_RGB" [a, r, g, b]).map Instr.expand =
      assembleFields "FR_BUILD" [a, ['0', 'x', '0', '2'], r, g, b, ['0']] := by
  simp [assembleFields, Instr.expand, parseField_fixedOperands, Option.map_bind, Function.comp_def]

theorem ledOn_expand (a : List Char) :
    (assembleFields "LED_ON" [a]).map Instr.expand =
      assembleFields "FR_BUILD" [a, ['0', 'x', '0', '3'], ['1'], ['0'], ['0'], ['0']] := by
  cases haddr : parseField 8 a <;> simp [assembleFields, Instr.expand, parseField_fixedOperands, flagByte, haddr]

theorem ledOff_expand (a : List Char) :
    (assembleFields "LED_OFF" [a]).map Instr.expand =
      assembleFields "FR_BUILD" [a, ['0', 'x', '0', '3'], ['0'], ['0'], ['0'], ['0']] := by
  cases haddr : parseField 8 a <;> simp [assembleFields, Instr.expand, parseField_fixedOperands, flagByte, haddr]

theorem ledBlink_expand (a tOn tOff : List Char) :
    (assembleFields "LED_BLINK" [a, tOn, tOff]).map Instr.expand =
      assembleFields "FR_BUILD_T" [a, ['0', 'x', '0', '4'], tOn, tOff] := by
  simp [assembleFields, Instr.expand, parseField_fixedOperands, Option.map_bind, Function.comp_def]

theorem ledBreath_expand (a tOn tOff : List Char) :
    (assembleFields "LED_BREATH" [a, tOn, tOff]).map Instr.expand =
      assembleFields "FR_BUILD_T" [a, ['0', 'x', '0', '5'], tOn, tOff] := by
  simp [assembleFields, Instr.expand, parseField_fixedOperands, Option.map_bind, Function.comp_def]

/-- GET_STATUS is another name of FR_STATUS, with the same operands. -/
theorem getStatus_eq_frStatus (args : List (List Char)) :
    assembleFields "GET_STATUS" args = assembleFields "FR_STATUS" args := by
  cases args with
  | nil => rfl
  | cons rlen bytes => rfl

/-- Settles O44: each LED pseudo-request assembles to a command whose expansion is its row's request. -/
theorem pseudoRequestsExpandToOneRequest : Obligations.PseudoRequestsExpandToOneRequest := by
  unfold Obligations.PseudoRequestsExpandToOneRequest
  exact ⟨fun a level => map_encode_eq_of_map_expand (ledBright_expand a level),
    fun a r g b => map_encode_eq_of_map_expand (ledRgb_expand a r g b),
    fun a => map_encode_eq_of_map_expand (ledOn_expand a),
    fun a => map_encode_eq_of_map_expand (ledOff_expand a),
    fun a tOn tOff => map_encode_eq_of_map_expand (ledBlink_expand a tOn tOff),
    fun a tOn tOff => map_encode_eq_of_map_expand (ledBreath_expand a tOn tOff),
    fun args => congrArg (Option.map encode) (getStatus_eq_frStatus args)⟩

end Sys2Proof
end

section
/-! The framer's sums and 16-bit values as numbers (40_framer.md R103, 00_scope.md R12). -/

namespace Sys2Proof

/-- Nine bytes sum to at most 2295, so the 16-bit sum loses no carry. -/
theorem chk9_toNat (f : Frame) : (chk9 f).toNat = sum9 f := by
  have := f.b0.isLt; have := f.b1.isLt; have := f.b2.isLt; have := f.b3.isLt; have := f.b4.isLt
  have := f.b5.isLt; have := f.b6.isLt; have := f.b7.isLt; have := f.b8.isLt
  simp only [chk9, sum9, BitVec.toNat_add, BitVec.toNat_setWidth]
  omega

theorem chk9_eq_ofNat_sum9 (f : Frame) : chk9 f = BitVec.ofNat 16 (sum9 f) := by
  rw [← chk9_toNat, BitVec.ofNat_toNat, BitVec.setWidth_eq]

/-- The two ways of weighing two bytes agree. -/
theorem be16_eq_ofNat_bigEndian (a b : Byte) : be16 a b = BitVec.ofNat 16 (bigEndian [a, b]) := by
  rw [be16, beNat_eq_bigEndian]

/-- Settles O16: nothing is reduced, since nine bytes never reach 2^16. -/
theorem checksumIsThePayloadSum : Obligations.ChecksumIsThePayloadSum := by
  unfold Obligations.ChecksumIsThePayloadSum
  refine fun f => ⟨?_, fun _ _ => rfl⟩
  have hle := sum9_le f
  rw [chk9_toNat, Nat.mod_eq_of_lt (by omega)]

end Sys2Proof
end

section
/-! What every request's packet does (30_encoding.md R72, R73), and the interface requests NOP and RD (40_framer.md R100,
R101). -/

namespace Sys2Proof

/-- A packet of the right length whose flags byte, where its op has one, is clean decodes to its operands (R72). -/
theorem decode_wellFormed {op : Op} {body : List Byte} (hlen : body.length + 1 = op.length)
    (hflags : hasBadField op (op.byte :: body) = false) :
    decode (op.byte :: body) = .ok (operandsOf op (op.byte :: body)) := by
  simp [decode, hlen, hflags]

end Sys2Proof

namespace Sys2Proof.Machine

open Sys2Proof

/-! ### One request packet -/

section
variable {s : State} {op : Op} {body : List Byte} {rest : List HostEvent}

/-- A packet of the right length runs as the instruction its operands make. -/
theorem step_wellFormed (hhost : s.host = .request (op.byte :: body) :: rest) (hlen : body.length + 1 = op.length)
    (hflags : hasBadField op (op.byte :: body) = false) :
    step s = exec (operandsOf op (op.byte :: body)) (s.setHost rest) := by
  rw [step_request hhost, runRequest_ok (decode_wellFormed hlen hflags)]

/-- A packet of any other length is BAD_LEN (R73). -/
theorem step_badLength (hhost : s.host = .request (op.byte :: body) :: rest) (hlen : body.length + 1 ≠ op.length) :
    step s = .next ((s.setHost rest).raise .badLen) :=
  step_refused hhost (decode_badLength (opOf_byte op) hlen)

end

/-! ### No other instruction does just what NOP does (R100) -/

/-- A state in which every instruction but NOP shows: no unit is set up, VSUM is no sum of nine bytes, VS_UPD is set, and
RDATA holds no register's value. -/
def nopProbe : State := { State.reset with rdata := 2, vsum := 0xFFFF, vsUpd := true }

/-- The instruction does in `nopProbe` what NOP does. -/
def ActsAsNop (i : Instr) : Prop := exec i nopProbe = .next nopProbe.complete

/-- A fault shows in STATUS. -/
theorem complete_ne_raise (s t : State) (c : FaultCode) : s.complete ≠ t.raise c := fun h =>
  code_ne_zero c (congrArg State.status h).symm

theorem read_nopProbe_ne_rdata (r : Reg) : nopProbe.read r ≠ nopProbe.rdata := by
  cases r with
  | cframe i => revert i; decide
  | _ => decide

/-- The probe's VSUM is above every sum of nine bytes. -/
theorem chk9_ne_nopProbe_vsum (b : Frame) : chk9 b ≠ nopProbe.vsum := by
  intro h
  have hle := sum9_le b
  rw [← chk9_toNat, h] at hle
  exact absurd hle (by decide)

/-- RD writes RDATA or faults. -/
theorem not_actsAsNop_rd (n : Byte) : ¬ ActsAsNop (.rd n) := fun h => by
  obtain ⟨r, -, hload⟩ | ⟨-, hfault⟩ := execRd_cases h
  · exact read_nopProbe_ne_rdata r (congrArg State.rdata hload).symm
  · exact complete_ne_raise _ _ _ hfault

/-- What a build does shows: it writes a command frame, whose first byte is not 0, or it faults. -/
theorem complete_ne_of_frame_or_fault {t : State} {addr : Byte} {f : Frame} {c : FaultCode} (hf : f.b0 = 0xA0)
    (ht : t = (nopProbe.loadFrame addr f).complete ∨ t = nopProbe.raise c) : nopProbe.complete ≠ t := by
  rintro rfl
  rcases ht with hload | hfault
  · exact absurd ((congrArg (·.cframe.b0) hload).trans hf) (show (0 : Byte) ≠ 0xA0 by decide)
  · exact complete_ne_raise _ _ _ hfault

theorem not_actsAsNop_frBuild (addr opc p0 p1 p2 p3 : Byte) : ¬ ActsAsNop (.frBuild addr opc p0 p1 p2 p3) := fun h =>
  complete_ne_of_frame_or_fault rfl ((buildFrame_cases nopProbe addr opc p0 p1 p2 p3).imp And.right And.right)
    (Host.Outcome.next.inj h).symm

theorem not_actsAsNop_frBuildT (addr opc : Byte) (tOn tOff : Half) :
    ¬ ActsAsNop (.frBuildT addr opc tOn tOff) := fun h =>
  complete_ne_of_frame_or_fault rfl ((buildTimedFrame_cases nopProbe addr opc tOn tOff).imp And.right And.right)
    (Host.Outcome.next.inj h).symm

/-- FR_VERIFY writes VSUM. -/
theorem not_actsAsNop_frVerify (rlen : Byte) (b : Frame) : ¬ ActsAsNop (.frVerify rlen b) := fun h =>
  chk9_ne_nopProbe_vsum b (congrArg State.vsum (Host.Outcome.next.inj h))

/-- FR_STATUS writes VSUM. -/
theorem not_actsAsNop_frStatus (rlen : Byte) (b : Frame) : ¬ ActsAsNop (.frStatus rlen b) := fun h =>
  chk9_ne_nopProbe_vsum b (congrArg State.vsum (Host.Outcome.next.inj h))

/-- CTR_INIT sets BASE_VALID. -/
theorem not_actsAsNop_ctrInit (rx tx : DWord) : ¬ ActsAsNop (.ctrInit rx tx) := fun h =>
  absurd (congrArg State.baseValid (Host.Outcome.next.inj h)) (show ¬ true = false by decide)

/-- CTR_SAMPLE without a baseline faults. -/
theorem not_actsAsNop_ctrSample (short : Bool) (rx tx : DWord) : ¬ ActsAsNop (.ctrSample short rx tx) := fun h => by
  obtain ⟨hvalid, -⟩ | ⟨-, hfault⟩ := execCtrSample_cases h
  · exact absurd hvalid (by decide)
  · exact complete_ne_raise _ _ _ hfault

/-- CLS_SETTH sets TH_VALID. -/
theorem not_actsAsNop_clsSetth (low med high : Byte) : ¬ ActsAsNop (.clsSetth low med high) := fun h =>
  absurd (congrArg State.thValid (Host.Outcome.next.inj h)) (show ¬ true = false by decide)

/-- CLS_CLASSIFY clears VS_UPD or, without thresholds, faults. -/
theorem not_actsAsNop_clsClassify (valid : Bool) (u : DWord) : ¬ ActsAsNop (.clsClassify valid u) := fun h => by
  cases valid with
  | false => exact absurd (congrArg State.vsUpd (Host.Outcome.next.inj h)) (show ¬ false = true by decide)
  | true =>
    rw [ActsAsNop, exec_clsClassify_notConfig rfl] at h
    exact complete_ne_raise _ _ _ (Host.Outcome.next.inj h).symm

/-- R100: only NOP does just what NOP does. An LED command is the build it expands to. -/
theorem eq_nop_of_actsAsNop {i : Instr} (h : ActsAsNop i) : i = .nop := by
  cases i with
  | nop => rfl
  | rd n => exact absurd h (not_actsAsNop_rd n)
  | frBuild addr opc p0 p1 p2 p3 => exact absurd h (not_actsAsNop_frBuild addr opc p0 p1 p2 p3)
  | frBuildT addr opc tOn tOff => exact absurd h (not_actsAsNop_frBuildT addr opc tOn tOff)
  | frVerify rlen b => exact absurd h (not_actsAsNop_frVerify rlen b)
  | frStatus rlen b => exact absurd h (not_actsAsNop_frStatus rlen b)
  | ctrInit rx tx => exact absurd h (not_actsAsNop_ctrInit rx tx)
  | ctrSample short rx tx => exact absurd h (not_actsAsNop_ctrSample short rx tx)
  | clsSetth low med high => exact absurd h (not_actsAsNop_clsSetth low med high)
  | clsClassify valid u => exact absurd h (not_actsAsNop_clsClassify valid u)
  | brightness addr level => exact absurd h (not_actsAsNop_frBuild addr ledBrightness level 0 0 0)
  | rgb addr r g b => exact absurd h (not_actsAsNop_frBuild addr ledRgb r g b 0)
  | onoff addr on => exact absurd h (not_actsAsNop_frBuild addr ledOnoff (flagByte on) 0 0 0)
  | blink addr tOn tOff => exact absurd h (not_actsAsNop_frBuildT addr ledBlink tOn tOff)
  | breath addr tOn tOff => exact absurd h (not_actsAsNop_frBuildT addr ledBreath tOn tOff)

/-- Settles O1: `nopProbe` tells every other instruction from NOP. -/
theorem nopClearsStatusOnly : Obligations.NopClearsStatusOnly := by
  unfold Obligations.NopClearsStatusOnly
  refine ⟨fun s => rfl, fun i hlike => eq_nop_of_actsAsNop (hlike nopProbe), fun s rest hhost => ?runs,
    fun s rest body hhost hlen => ?badLength⟩
  case runs => exact step_wellFormed (op := .nop) hhost rfl rfl
  case badLength => exact step_badLength (op := .nop) hhost (by simpa [Op.length] using hlen)

/-- Settles O2: the two ways RD ends, and its packet. -/
theorem rdCopiesOldValueOrFaults : Obligations.RdCopiesOldValueOrFaults := by
  unfold Obligations.RdCopiesOldValueOrFaults
  refine ⟨fun s n r hlisted => exec_rd_listed hlisted s, fun s n hreserved => exec_rd_reserved hreserved s,
    fun s => exec_rd_listed (r := .status) (by decide) s, fun s => exec_rd_listed (r := .fault) (by decide) s,
    fun s rest n hhost => ?runs, fun s rest body hhost hlen => ?badLength⟩
  case runs => exact step_wellFormed (op := .rd) hhost rfl rfl
  case badLength => exact step_badLength (op := .rd) hhost (by simpa [Op.length] using hlen)

end Sys2Proof.Machine
end

section
/-! The framer's requests (40_framer.md R102 to R117): the two builds, the LED commands, FR_VERIFY and FR_STATUS. -/

namespace Sys2Proof

/-! ### What a build computes (R102, R109, R111) -/

/-- The checksum of a command frame: the header's 0xA0 and 0x01, the opcode, the parameters. -/
theorem chk9_commandFrame (opc p0 p1 p2 p3 : Byte) :
    chk9 (commandFrame opc p0 p1 p2 p3) =
      BitVec.ofNat 16 (0xA1 + opc.toNat + p0.toNat + p1.toNat + p2.toNat + p3.toNat) := by
  rw [chk9_eq_ofNat_sum9]
  simp [sum9, commandFrame, Frame.seal]

/-- No command frame sums to 0: its header alone is 0xA1, and it is far from 2^16. -/
theorem chk9_commandFrame_ne_zero (opc p0 p1 p2 p3 : Byte) : chk9 (commandFrame opc p0 p1 p2 p3) ≠ 0 := by
  intro h
  have hsum : sum9 (commandFrame opc p0 p1 p2 p3) = 0 := by rw [← chk9_toNat, h]; rfl
  have hheader : (commandFrame opc p0 p1 p2 p3).b0.toNat = 0xA0 := rfl
  simp only [sum9, hheader] at hsum
  omega

/-- `t_high` as a number (R109). -/
theorem tHighOf_eq_ofNat (tOn tOff : Half) : tHighOf tOn tOff = BitVec.ofNat 16 (tOn.toNat + tOff.toNat) :=
  BitVec.eq_of_toNat_eq (by simp [tHighOf])

/-- `t_off` as a number (R117). -/
theorem tOffOf_eq_ofNat (tHigh tLow : Half) :
    tOffOf tHigh tLow = BitVec.ofNat 16 (2 ^ 16 + tHigh.toNat - tLow.toNat) := by
  have := tLow.isLt
  apply BitVec.eq_of_toNat_eq
  rw [tOffOf, BitVec.toNat_sub, BitVec.toNat_ofNat]
  congr 1
  omega

/-! ### The verdict and the reason (R113, R114) -/

/-- VERIFY11 over numbers (R113). -/
theorem verify11_eq_decide (rlen : Byte) (b : Frame) :
    verify11 rlen b = decide (rlen = 11 ∧ BitVec.ofNat 16 (sum9 b) ≠ 0 ∧
      BitVec.ofNat 16 (sum9 b) = BitVec.ofNat 16 (bigEndian [b.b9, b.b10])) := by
  rw [← chk9_eq_ofNat_sum9, ← be16_eq_ofNat_bigEndian, Bool.eq_iff_iff]
  simp [verify11, and_assoc]

/-- The verdict on eleven bytes. -/
theorem verify11_eq_true_iff (b : Frame) :
    verify11 11 b = true ↔ BitVec.ofNat 16 (sum9 b) ≠ 0 ∧
      BitVec.ofNat 16 (sum9 b) = BitVec.ofNat 16 (bigEndian [b.b9, b.b10]) := by
  rw [verify11_eq_decide, decide_eq_true_iff, and_iff_right rfl]

theorem statusReason_length {rlen : Byte} (hlen : rlen ≠ 11) (b : Frame) : statusReason rlen b = .length :=
  if_pos hlen

theorem statusReason_checksum {b : Frame} (hsum : verify11 11 b ≠ true) : statusReason 11 b = .checksum := by
  rw [statusReason, if_neg (not_not_intro rfl), if_pos (eq_false_of_ne_true hsum)]

theorem statusReason_mode {b : Frame} (hsum : verify11 11 b = true) (hmode : 3 < b.b0.toNat) :
    statusReason 11 b = .mode := by
  rw [statusReason, if_neg (not_not_intro rfl), if_neg (ne_false_of_eq_true hsum), if_pos hmode]

theorem statusReason_none {b : Frame} (hsum : verify11 11 b = true) (hmode : b.b0.toNat ≤ 3) :
    statusReason 11 b = .none := by
  rw [statusReason, if_neg (not_not_intro rfl), if_neg (ne_false_of_eq_true hsum), if_neg (Nat.not_lt.mpr hmode)]

/-- The modes of R82. -/
theorem modeOf_eq_some_iff (x : Byte) (mode : LedMode) :
    modeOf x = some mode ↔
      x = 0 ∧ mode = .off ∨ x = 1 ∧ mode = .on ∨ x = 2 ∧ mode = .blink ∨ x = 3 ∧ mode = .breath := by
  cases mode <;> revert x <;> decide

/-- A known mode is at most 3 (R82). -/
theorem le_three_of_modeOf_eq_some {x : Byte} {mode : LedMode} (h : modeOf x = some mode) : x.toNat ≤ 3 := by
  rcases (modeOf_eq_some_iff x mode).mp h with ⟨rfl, -⟩ | ⟨rfl, -⟩ | ⟨rfl, -⟩ | ⟨rfl, -⟩ <;> decide

end Sys2Proof

namespace Sys2Proof.Machine

open Sys2Proof

/-! ### The two builds -/

/-- R102: FR_BUILD of a named LED opcode, with `n` its checksum before the reduction. -/
theorem exec_frBuild_named {opc p0 p1 p2 p3 : Byte} {n : Nat} (hnamed : 1 ≤ opc.toNat ∧ opc.toNat ≤ 5)
    (hn : n = 0xA1 + opc.toNat + p0.toNat + p1.toNat + p2.toNat + p3.toNat) (s : State) (addr : Byte) :
    exec (.frBuild addr opc p0 p1 p2 p3) s =
      .next { s with
        addr := addr, csum := BitVec.ofNat 16 n, status := 0,
        cframe := ⟨0xA0, 0x01, 0x00, 0x00, opc, p0, p1, p2, p3, (BitVec.ofNat 16 n).extractLsb' 8 8,
          (BitVec.ofNat 16 n).extractLsb' 0 8⟩ } := by
  subst hn
  rw [← chk9_commandFrame]
  obtain ⟨-, hload⟩ | ⟨hreserved, -⟩ := buildFrame_cases s addr opc p0 p1 p2 p3
  · exact congrArg Host.Outcome.next hload
  · simp [(ledOpcodeLegal_iff opc).mpr hnamed] at hreserved

/-- R111: FR_BUILD_T of a timed LED opcode is FR_BUILD with the bytes of t_high and t_low for parameters. -/
theorem exec_frBuildT_timed {opc : Byte} (htimed : opc.toNat = 4 ∨ opc.toNat = 5) (s : State) (addr : Byte)
    (tOn tOff : Half) :
    exec (.frBuildT addr opc tOn tOff) s =
      exec (.frBuild addr opc (hiByte (tHighOf tOn tOff)) (loByte (tHighOf tOn tOff)) (hiByte tOn) (loByte tOn)) s := by
  have htimed' := (ledOpcodeTimed_iff opc).mpr htimed
  simp [exec, execFrBuildT, execFrBuild, State.buildTimedFrame, State.buildFrame, htimed',
    ledOpcodeLegal_of_timed htimed', timedFrame]

/-- R109, R111: the frame of a timed build, with `n` its checksum before the reduction. -/
theorem exec_frBuildT_frame {opc : Byte} {tOn tOff tHigh : Half} {n : Nat} (htimed : opc.toNat = 4 ∨ opc.toNat = 5)
    (hhigh : tHigh = tHighOf tOn tOff)
    (hn : n = 0xA1 + opc.toNat + tHigh.toNat / 256 + tHigh.toNat % 256 + tOn.toNat / 256 + tOn.toNat % 256)
    (s : State) (addr : Byte) :
    exec (.frBuildT addr opc tOn tOff) s =
      .next { s with
        addr := addr, csum := BitVec.ofNat 16 n, status := 0,
        cframe := ⟨0xA0, 0x01, 0x00, 0x00, opc, tHigh.extractLsb' 8 8, tHigh.extractLsb' 0 8, tOn.extractLsb' 8 8,
          tOn.extractLsb' 0 8, (BitVec.ofNat 16 n).extractLsb' 8 8, (BitVec.ofNat 16 n).extractLsb' 0 8⟩ } := by
  subst hhigh
  rw [exec_frBuildT_timed htimed]
  exact exec_frBuild_named (by omega) (by simpa only [hiByte_toNat, loByte_toNat] using hn) s addr

/-- Settles O9: the named opcodes by `exec_frBuild_named`, the others by `exec_frBuild_reserved`. -/
theorem frBuildWritesFrameOrFaults : Obligations.FrBuildWritesFrameOrFaults := by
  unfold Obligations.FrBuildWritesFrameOrFaults
  refine ⟨fun s addr opc p0 p1 p2 p3 hlow hhigh => ⟨?nonzero, ?frame⟩,
    fun s addr opc p0 p1 p2 p3 hreserved => ?reserved, fun s rest addr opc p0 p1 p2 p3 hhost => ?runs,
    fun s rest body hhost hlen => ?badLength⟩
  case nonzero => exact chk9_commandFrame opc p0 p1 p2 p3 ▸ chk9_commandFrame_ne_zero opc p0 p1 p2 p3
  case frame => exact exec_frBuild_named ⟨hlow, hhigh⟩ (by omega) s addr
  case reserved =>
    have hnum : opc.toNat = 0 ∨ 5 < opc.toNat := hreserved.imp_left (congrArg BitVec.toNat)
    exact exec_frBuild_reserved (by omega) s addr p0 p1 p2 p3
  case runs => exact step_wellFormed (op := .frBuild) hhost rfl rfl
  case badLength => exact step_badLength (op := .frBuild) hhost (by simpa [Op.length] using hlen)

/-- Settles O10: the timed opcodes by `exec_frBuildT_frame`, the others by `exec_frBuildT_untimed`. -/
theorem frBuildTPacksTimesOrFaults : Obligations.FrBuildTPacksTimesOrFaults := by
  unfold Obligations.FrBuildTPacksTimesOrFaults
  refine ⟨fun s addr opc tOn tOff htimed => ?frame, fun s addr opc tOn tOff hblink hbreath => ?untimed,
    fun s rest addr opc a b c d hhost => ?runs, fun s rest body hhost hlen => ?badLength⟩
  case frame =>
    have hnum : opc.toNat = 4 ∨ opc.toNat = 5 := htimed.imp (congrArg BitVec.toNat) (congrArg BitVec.toNat)
    exact exec_frBuildT_frame hnum (tHighOf_eq_ofNat tOn tOff).symm (by omega) s addr
  case untimed =>
    have hnum : ¬ (opc.toNat = 4 ∨ opc.toNat = 5) := fun h =>
      h.elim (fun h4 => hblink (BitVec.eq_of_toNat_eq h4)) (fun h5 => hbreath (BitVec.eq_of_toNat_eq h5))
    exact exec_frBuildT_untimed hnum s addr tOn tOff
  case runs =>
    rw [← be16_eq_ofNat_bigEndian, ← be16_eq_ofNat_bigEndian]
    exact step_wellFormed (op := .frBuildT) hhost rfl rfl
  case badLength => exact step_badLength (op := .frBuildT) hhost (by simpa [Op.length] using hlen)

/-! ### The LED commands -/

/-- Settles O12: each command is the FR_BUILD it expands to. -/
theorem ledParameterCommandsBuildTheirFrames : Obligations.LedParameterCommandsBuildTheirFrames := by
  unfold Obligations.LedParameterCommandsBuildTheirFrames
  refine ⟨fun s addr level => ⟨rfl, ?brightness⟩, fun s addr r g b => ⟨rfl, ?rgb⟩,
    fun s addr => ⟨rfl, ?on, rfl, ?off⟩, fun s addr p0 => ?verbatim⟩
  case brightness => exact exec_frBuild_named (opc := 0x01) (by decide) (by simp) s addr
  case rgb => exact exec_frBuild_named (opc := 0x02) (by decide) (by simp) s addr
  case on => exact exec_frBuild_named (opc := 0x03) (p0 := 1) (n := 0xA5) (by decide) (by decide) s addr
  case off => exact exec_frBuild_named (opc := 0x03) (p0 := 0) (n := 0xA4) (by decide) (by decide) s addr
  case verbatim => exact exec_frBuild_named (by decide) (by simp) s addr

/-- Settles O13: each command is the FR_BUILD_T it expands to. -/
theorem ledTimedCommandsBuildTheirFrames : Obligations.LedTimedCommandsBuildTheirFrames := by
  unfold Obligations.LedTimedCommandsBuildTheirFrames
  intro s addr tOn tOff
  have hhigh := (tHighOf_eq_ofNat tOn tOff).symm
  refine ⟨rfl, rfl, ?blink, ?breath⟩
  case blink => exact exec_frBuildT_frame (opc := 0x04) (by decide) hhigh (by simp; omega) s addr
  case breath => exact exec_frBuildT_frame (opc := 0x05) (by decide) hhigh (by simp; omega) s addr

/-! ### FR_VERIFY -/

/-- R112: what FR_VERIFY and FR_STATUS both write, as numbers. -/
theorem loadVerdict_eq (s : State) (rlen : Byte) (b : Frame) :
    s.loadVerdict rlen b =
      { s with
        vsum := BitVec.ofNat 16 (sum9 b),
        vok := decide (rlen = 11 ∧ BitVec.ofNat 16 (sum9 b) ≠ 0 ∧
          BitVec.ofNat 16 (sum9 b) = BitVec.ofNat 16 (bigEndian [b.b9, b.b10])) } := by
  rw [State.loadVerdict, verify11_eq_decide, chk9_eq_ofNat_sum9]

/-- Settles O14: the verdict is `loadVerdict_eq`, whatever it is, and the request completes. -/
theorem frVerifyWritesSumAndVerdict : Obligations.FrVerifyWritesSumAndVerdict := by
  unfold Obligations.FrVerifyWritesSumAndVerdict
  refine ⟨fun s rlen b => ?verdict, fun s rest rlen b0 b1 b2 b3 b4 b5 b6 b7 b8 b9 b10 hhost => ?runs,
    fun s rest body hhost hlen => ?badLength⟩
  case verdict => exact congrArg (fun t => Host.Outcome.next t.complete) (loadVerdict_eq s rlen b)
  case runs => exact step_wellFormed (op := .frVerify) hhost rfl rfl
  case badLength => exact step_badLength (op := .frVerify) hhost (by simpa [Op.length] using hlen)

/-! ### FR_STATUS -/

/-- R116: a failed check leaves its reason and nothing else. -/
theorem snapshotDecode_unavailable {rlen : Byte} {b : Frame} {reason : StatusReason}
    (hreason : statusReason rlen b = reason) (hfail : reason ≠ .none) :
    Snapshot.decode rlen b = Snapshot.unavailable reason := by
  cases reason with
  | none => exact absurd rfl hfail
  | length | checksum | mode => simp [Snapshot.decode, hreason]

/-- R115, R117: a checked frame of a known mode gives every field. -/
theorem snapshotDecode_available {b : Frame} {mode : LedMode} (hsum : verify11 11 b = true)
    (hmode : modeOf b.b0 = some mode) : Snapshot.decode 11 b = Snapshot.ofFrame mode b := by
  rw [Snapshot.decode, statusReason_none hsum (le_three_of_modeOf_eq_some hmode), hmode]

/-- The snapshot of a checked frame, its times as numbers. -/
theorem snapshotOfFrame_eq (mode : LedMode) (b : Frame) :
    Snapshot.ofFrame mode b =
      let tHigh : Half := BitVec.ofNat 16 (bigEndian [b.b5, b.b6])
      let tLow : Half := BitVec.ofNat 16 (bigEndian [b.b7, b.b8])
      { avail := true, reason := .none, mode := mode, bright := b.b1, r := b.b2, g := b.b3, b := b.b4, tHigh := tHigh,
        tLow := tLow, tOn := tLow, tOff := BitVec.ofNat 16 (2 ^ 16 + tHigh.toNat - tLow.toNat),
        tAnom := decide (tHigh.toNat < tLow.toNat) } := by
  simp only [← be16_eq_ofNat_bigEndian, ← tOffOf_eq_ofNat]
  rfl

/-- R114: what FR_STATUS writes is FR_VERIFY's verdict and the snapshot. -/
theorem exec_frStatus_of_decode {rlen : Byte} {b : Frame} {p : Snapshot} (hp : Snapshot.decode rlen b = p)
    (s : State) : exec (.frStatus rlen b) s = .next ((s.loadVerdict rlen b).loadSnapshot p).complete := by
  subst hp
  rfl

/-- Settles O15: the three reasons leave `Snapshot.unavailable`, and a checked frame of a known mode
`Snapshot.ofFrame`. -/
theorem frStatusDecodesWholeSnapshotOrNone : Obligations.FrStatusDecodesWholeSnapshotOrNone := by
  unfold Obligations.FrStatusDecodesWholeSnapshotOrNone
  refine ⟨fun s rlen b reason hfails => ?none, fun s b mode hnonzero hsum hmode => ?whole,
    fun s rest rlen b0 b1 b2 b3 b4 b5 b6 b7 b8 b9 b10 hhost => ?runs, fun s rest body hhost hlen => ?badLength⟩
  case none =>
    have hdecode : Snapshot.decode rlen b = Snapshot.unavailable reason := by
      rcases hfails with ⟨hlen, rfl⟩ | ⟨rfl, hsum, rfl⟩ | ⟨rfl, hnonzero, hsum, hmode, rfl⟩
      · exact snapshotDecode_unavailable (statusReason_length hlen b) (by decide)
      · exact snapshotDecode_unavailable (statusReason_checksum (mt (verify11_eq_true_iff b).mp hsum)) (by decide)
      · exact snapshotDecode_unavailable (statusReason_mode ((verify11_eq_true_iff b).mpr ⟨hnonzero, hsum⟩) hmode)
          (by decide)
    rw [exec_frStatus_of_decode hdecode, loadVerdict_eq]
    rfl
  case whole =>
    have hverdict := (verify11_eq_true_iff b).mpr ⟨hnonzero, hsum⟩
    have hdecode := snapshotDecode_available hverdict ((modeOf_eq_some_iff b.b0 mode).mpr hmode)
    rw [exec_frStatus_of_decode (hdecode.trans (snapshotOfFrame_eq mode b)), State.loadVerdict, hverdict,
      chk9_eq_ofNat_sum9]
    rfl
  case runs => exact step_wellFormed (op := .frStatus) hhost rfl rfl
  case badLength => exact step_badLength (op := .frStatus) hhost (by simpa [Op.length] using hlen)

end Sys2Proof.Machine
end

section
/-! The counter unit (41_counter.md R140 to R146): the delta function, CTR_INIT and CTR_SAMPLE. -/

namespace Sys2Proof

/-! ### The delta as a number (R141, R147) -/

theorem wdelta_of_le {cur prev : DWord} (h : prev.toNat ≤ cur.toNat) : wdelta cur prev = cur - prev :=
  if_pos h

theorem wdelta_of_lt {cur prev : DWord} (h : cur.toNat < prev.toNat) :
    wdelta cur prev = (BitVec.allOnes 64 - prev) + cur :=
  if_neg (Nat.not_le.mpr h)

/-- The branch without a wrap borrows nothing. -/
theorem wdelta_toNat_of_le {cur prev : DWord} (h : prev.toNat ≤ cur.toNat) :
    (wdelta cur prev).toNat = cur.toNat - prev.toNat := by
  rw [wdelta_of_le h, BitVec.toNat_sub_of_le (BitVec.le_def.mpr h)]

/-- The branch of a wrap does not overflow: `cur` is below `prev`, so the sum stays below `U64_MAX` (R147). -/
theorem wdelta_toNat_of_lt {cur prev : DWord} (h : cur.toNat < prev.toNat) :
    (wdelta cur prev).toNat = (2 ^ 64 - 1 - prev.toNat) + cur.toNat := by
  have hprev := prev.isLt
  have hmax : prev ≤ BitVec.allOnes 64 := BitVec.le_def.mpr (by rw [BitVec.toNat_allOnes]; omega)
  rw [wdelta_of_lt h, BitVec.toNat_add, BitVec.toNat_sub_of_le hmax, BitVec.toNat_allOnes]
  exact Nat.mod_eq_of_lt (by omega)

/-- WDELTA over numbers, both branches in one. -/
theorem wdelta_eq_ofNat (cur prev : DWord) :
    wdelta cur prev = BitVec.ofNat 64 (if prev.toNat ≤ cur.toNat then cur.toNat - prev.toNat
      else (2 ^ 64 - 1 - prev.toNat) + cur.toNat) := by
  have hnum : (wdelta cur prev).toNat = if prev.toNat ≤ cur.toNat then cur.toNat - prev.toNat
      else (2 ^ 64 - 1 - prev.toNat) + cur.toNat := by
    split
    case isTrue hle => exact wdelta_toNat_of_le hle
    case isFalse hlt => exact wdelta_toNat_of_lt (Nat.not_le.mp hlt)
  rw [← hnum, BitVec.ofNat_toNat, BitVec.setWidth_eq]

/-- Settles O23: each clause is a branch of `wdelta`. -/
theorem wdeltaIsTheSourceFormula : Obligations.WdeltaIsTheSourceFormula := by
  unfold Obligations.WdeltaIsTheSourceFormula
  exact ⟨fun _ _ hle => wdelta_toNat_of_le hle, fun _ _ hlt => wdelta_toNat_of_lt hlt, by decide⟩

/-! ### Packets -/

/-- The two ways of weighing a 64-bit operand's bytes agree. -/
theorem be64At_eq_ofNat_bigEndian (req : List Byte) (i : Nat) :
    be64At req i = BitVec.ofNat 64 (bigEndian
      [byteAt req i, byteAt req (i + 1), byteAt req (i + 2), byteAt req (i + 3),
       byteAt req (i + 4), byteAt req (i + 5), byteAt req (i + 6), byteAt req (i + 7)]) := by
  rw [be64At, beNat_eq_bigEndian]

/-- The reserved flags bits are all 0 (R74). -/
theorem reservedFlagBits_eq_false_iff (flags : Byte) :
    reservedFlagBits flags = false ↔ flags.extractLsb' 1 7 = 0 := by
  simp [reservedFlagBits]

end Sys2Proof

namespace Sys2Proof.Machine

open Sys2Proof

/-- A packet of the right length with reserved flags bits set is BAD_FIELD (R74). -/
theorem step_badField {s : State} {op : Op} {body : List Byte} {rest : List HostEvent}
    (hhost : s.host = .request (op.byte :: body) :: rest) (hlen : body.length + 1 = op.length)
    (hflags : hasBadField op (op.byte :: body) = true) :
    step s = .next ((s.setHost rest).raise .badField) :=
  step_refused hhost (decode_badField (opOf_byte op) hlen hflags)

/-! ### CTR_INIT -/

/-- Settles O21: CTR_INIT reads no register, so its next state is its definition's; the packet's counters are
big-endian. -/
theorem ctrInitTakesBaseline : Obligations.CtrInitTakesBaseline := by
  unfold Obligations.CtrInitTakesBaseline
  refine ⟨fun s rx tx => rfl, fun s rest a0 a1 a2 a3 a4 a5 a6 a7 c0 c1 c2 c3 c4 c5 c6 c7 hhost => ?runs,
    fun s rest body hhost hlen => ?badLength⟩
  case runs =>
    rw [step_wellFormed (op := .ctrInit) hhost rfl rfl, operandsOf, be64At_eq_ofNat_bigEndian,
      be64At_eq_ofNat_bigEndian]
    rfl
  case badLength => exact step_badLength (op := .ctrInit) hhost (by simpa [Op.length] using hlen)

/-! ### CTR_SAMPLE -/

/-- R142: with a baseline CTR_SAMPLE completes and replaces it, whatever SHORT is (R145); the wrap flags
compare numbers (R143). -/
theorem exec_ctrSample_of_baseline {s : State} (hbase : s.baseValid = true) (short : Bool) (rx tx : DWord) :
    exec (.ctrSample short rx tx) s =
      .next { s with
        deltaRx := wdelta rx s.baseRx, deltaTx := wdelta tx s.baseTx, deltaValid := !short,
        wrapRx := decide (rx.toNat < s.baseRx.toNat), wrapTx := decide (tx.toNat < s.baseTx.toNat),
        baseRx := rx, baseTx := tx, status := 0 } :=
  if_pos hbase

/-- R146: without a baseline CTR_SAMPLE faults NOT_INIT. -/
theorem exec_ctrSample_notInit {s : State} (hbase : s.baseValid = false) (short : Bool) (rx tx : DWord) :
    exec (.ctrSample short rx tx) s = .next (s.raise .notInit) :=
  if_neg (ne_true_of_eq_false hbase)

/-- Settles O22: with a baseline by `exec_ctrSample_of_baseline`, the deltas as numbers by `wdelta_eq_ofNat`; every
other clause is a fault or the packet's operands. -/
theorem ctrSampleReplacesBaselineOrFaults : Obligations.CtrSampleReplacesBaselineOrFaults := by
  unfold Obligations.CtrSampleReplacesBaselineOrFaults
  refine ⟨fun s rx tx hbase => ?valid, fun s rx tx hbase => ?short, fun s short rx tx hbase => ?notInit,
    fun s rest flags a0 a1 a2 a3 a4 a5 a6 a7 c0 c1 c2 c3 c4 c5 c6 c7 hhost hflags => ?runs,
    fun s rest flags body hhost hlen hflags => ?badField, fun s rest body hhost hlen => ?badLength⟩
  case valid =>
    simp only [← wdelta_eq_ofNat]
    exact exec_ctrSample_of_baseline hbase false rx tx
  case short => exact ⟨_, _, exec_ctrSample_of_baseline hbase true rx tx⟩
  case notInit => exact exec_ctrSample_notInit hbase short rx tx
  case runs =>
    rw [step_wellFormed (op := .ctrSample) hhost rfl ((reservedFlagBits_eq_false_iff flags).mpr hflags), operandsOf,
      be64At_eq_ofNat_bigEndian, be64At_eq_ofNat_bigEndian]
    rfl
  case badField =>
    exact step_badField (op := .ctrSample) hhost (by simp [hlen, Op.length])
      ((reservedFlagBits_eq_true_iff flags).mpr hflags)
  case badLength => exact step_badLength (op := .ctrSample) hhost (by simpa [Op.length] using hlen)

end Sys2Proof.Machine
end

section
/-! The comparison of 00_scope.md R14 as the order of the rationals, and the bands of 42_classifier.md R162 it gives. -/

namespace Sys2Proof

/-! ### The real value behind the scaled integer (R14) -/

theorem f64Scale_cast : (f64Scale : ℚ) = 2 ^ (1075 : ℤ) := by
  rw [f64Scale, Nat.cast_pow]
  exact (zpow_natCast (2 : ℚ) 1075).symm

theorem f64Scale_cast_pos : (0 : ℚ) < f64Scale := by
  rw [f64Scale_cast]
  positivity

/-- The standard's subnormal formula, scaled. -/
theorem subnormal_mul_scale (f : ℚ) : f / 2 ^ 52 * 2 ^ (-1022 : ℤ) * f64Scale = f * 2 := by
  have hpow : (2 : ℚ) ^ (-1022 : ℤ) * 2 ^ (1075 : ℤ) = 2 ^ 52 * 2 := by
    rw [← zpow_add₀ two_ne_zero]
    norm_num
  calc f / 2 ^ 52 * 2 ^ (-1022 : ℤ) * f64Scale
      = f / 2 ^ 52 * (2 ^ (-1022 : ℤ) * 2 ^ (1075 : ℤ)) := by rw [f64Scale_cast, mul_assoc]
    _ = f * 2 := by rw [hpow]; ring

/-- The standard's normal formula, scaled. -/
theorem normal_mul_scale (f : ℚ) (e : Nat) :
    (1 + f / 2 ^ 52) * 2 ^ ((e : ℤ) - 1023) * f64Scale = (2 ^ 52 + f) * 2 ^ e := by
  have hpow : (2 : ℚ) ^ ((e : ℤ) - 1023) * 2 ^ (1075 : ℤ) = 2 ^ 52 * 2 ^ e := by
    rw [← zpow_add₀ two_ne_zero, ← pow_add, ← zpow_natCast]
    congr 1
    omega
  calc (1 + f / 2 ^ 52) * 2 ^ ((e : ℤ) - 1023) * f64Scale
      = (1 + f / 2 ^ 52) * (2 ^ ((e : ℤ) - 1023) * 2 ^ (1075 : ℤ)) := by rw [f64Scale_cast, mul_assoc]
    _ = (2 ^ 52 + f) * 2 ^ e := by rw [hpow]; ring

/-- The magnitude of a pattern is its real magnitude, scaled. -/
theorem f64Magnitude_cast (w : DWord) :
    (f64Magnitude w : ℚ) =
      (if (w.extractLsb' 52 11).toNat = 0 then ((w.extractLsb' 0 52).toNat : ℚ) / 2 ^ 52 * 2 ^ (-1022 : ℤ)
       else (1 + ((w.extractLsb' 0 52).toNat : ℚ) / 2 ^ 52) * 2 ^ (((w.extractLsb' 52 11).toNat : ℤ) - 1023)) *
      f64Scale := by
  unfold f64Magnitude f64Exp f64Frac
  split
  case isTrue => rw [subnormal_mul_scale]; push_cast; rfl
  case isFalse => rw [normal_mul_scale]; push_cast; rfl

/-- The integer the comparator compares is the real value, scaled. -/
theorem f64Scaled_cast (w : DWord) : (f64Scaled w : ℚ) = ieeeValue w * f64Scale := by
  rw [ieeeValue, mul_assoc, ← f64Magnitude_cast, f64Scaled, f64Sign]
  cases w.getLsbD 63 <;> simp

/-! ### The comparator -/

/-- On finite patterns the comparator is the order of the real values. -/
theorem f64Lt_iff_of_finite {w : DWord} (hfinite : (w.extractLsb' 52 11).toNat ≠ 0x7FF) (t : Nat) :
    f64Lt w t = true ↔ ieeeValue w < (t : ℚ) := by
  have hspecial : f64Special w = false := beq_eq_false_iff_ne.mpr hfinite
  calc f64Lt w t = true
      ↔ f64Scaled w < ((t * f64Scale : Nat) : ℤ) := by
        rw [f64Lt, hspecial, if_neg Bool.false_ne_true, decide_eq_true_iff]
    _ ↔ (f64Scaled w : ℚ) < (t : ℚ) * f64Scale := by norm_cast
    _ ↔ ieeeValue w < (t : ℚ) := by rw [f64Scaled_cast, mul_lt_mul_iff_left₀ f64Scale_cast_pos]

/-- On the other patterns it is the sign bit. -/
theorem f64Lt_of_special {w : DWord} (hspecial : (w.extractLsb' 52 11).toNat = 0x7FF) (t : Nat) :
    f64Lt w t = w.getLsbD 63 :=
  if_pos (beq_iff_eq.mpr hspecial)

theorem f64Lt_iff_f64Below (w : DWord) (t : Byte) : f64Lt w t.toNat = true ↔ f64Below w t := by
  unfold f64Below
  split
  case isTrue hspecial => rw [f64Lt_of_special hspecial]
  case isFalse hfinite => exact f64Lt_iff_of_finite hfinite t.toNat

/-- The first-match chain gives the band of R162. -/
theorem classify_eq_bandOf (u : DWord) (l m h : Byte) : classify u l m h = bandOf u l m h := by
  simp only [classify, bandOf, f64Lt_iff_f64Below]

/-- A NaN has the exponent of the specials and a fraction that is not 0 (R14). -/
theorem isNaN_eq_true_iff (w : DWord) :
    isNaN w = true ↔ (w.extractLsb' 52 11).toNat = 0x7FF ∧ w.extractLsb' 0 52 ≠ 0 := by
  have hfrac : (w.extractLsb' 0 52).toNat ≠ 0 ↔ w.extractLsb' 0 52 ≠ 0 :=
    not_congr (BitVec.toNat_inj (y := 0))
  rw [isNaN, Bool.and_eq_true, f64Special, beq_iff_eq, bne_iff_ne, f64Exp, f64Frac, hfrac]

end Sys2Proof

namespace Sys2Proof.Machine

open Sys2Proof

/-! ### CLS_SETTH -/

/-- Settles O26: CLS_SETTH reads no register, so its next state is its definition's. -/
theorem clsSetthStoresAnyThresholds : Obligations.ClsSetthStoresAnyThresholds := by
  unfold Obligations.ClsSetthStoresAnyThresholds
  refine ⟨fun s low med high => rfl, fun s rest low med high hhost => ?runs, fun s rest body hhost hlen => ?badLength⟩
  case runs => exact step_wellFormed (op := .clsSetth) hhost rfl rfl
  case badLength => exact step_badLength (op := .clsSetth) hhost (by simpa [Op.length] using hlen)

/-! ### CLS_CLASSIFY with VALID = 1 and thresholds set -/

/-- R163: a NaN faults USAGE_NAN. -/
theorem exec_clsClassify_usageNan {s : State} {u : DWord} (hset : s.thValid = true) (hnan : isNaN u = true) :
    exec (.clsClassify true u) s = .next (s.raise .usageNan) := by
  simp [exec, execClsClassify, hset, hnan]

/-- R163, R165: any other usage is banded and VS_UPD is set. -/
theorem exec_clsClassify_banded {s : State} {u : DWord} (hset : s.thValid = true) (hnan : isNaN u = false) :
    exec (.clsClassify true u) s = .next (s.loadVisual (bandOf u s.thLow s.thMed s.thHigh)).complete := by
  simp [exec, execClsClassify, hset, hnan, classify_eq_bandOf]

/-- Settles O27: one clause for each way `execClsClassify` ends, with the band by `classify_eq_bandOf`, and one for each
way its packet is read. -/
theorem clsClassifyBandsTheUsage : Obligations.ClsClassifyBandsTheUsage := by
  unfold Obligations.ClsClassifyBandsTheUsage
  refine ⟨fun s u => rfl, fun s u hunset => ?notConfig, fun s u hset hexp hfrac => ?usageNan,
    fun s u hset hnumber => ?banded, fun s rest body hhost hlen => ?badLength,
    fun s rest flags body hhost hlen hflags => ?badField,
    fun s rest flags a0 a1 a2 a3 a4 a5 a6 a7 hhost hflags => ?runs⟩
  case notConfig => exact exec_clsClassify_notConfig hunset u
  case usageNan => exact exec_clsClassify_usageNan hset ((isNaN_eq_true_iff u).mpr ⟨hexp, hfrac⟩)
  case banded =>
    have hnan : isNaN u = false := Bool.eq_false_iff.mpr (mt (isNaN_eq_true_iff u).mp hnumber)
    exact exec_clsClassify_banded hset hnan
  case badLength => exact step_badLength (op := .clsClassify) hhost (by simpa [Op.length] using hlen)
  case badField =>
    exact step_badField (op := .clsClassify) hhost (by simp [hlen, Op.length])
      ((reservedFlagBits_eq_true_iff flags).mpr hflags)
  case runs =>
    rw [step_wellFormed (op := .clsClassify) hhost rfl ((reservedFlagBits_eq_false_iff flags).mpr hflags), operandsOf,
      be64At_eq_ofNat_bigEndian]
    rfl

end Sys2Proof.Machine
end

section
/-! Faults (60_exceptions.md R180 to R183): how each request ends, said once, and what that means for STATUS and FAULT. -/

namespace Sys2Proof.Machine

open Sys2Proof

/-! ### How a request ends -/

/-- The fault an instruction ends in, none where it completes (R180, R183): it is decided by the operands and the two
gates BASE_VALID and TH_VALID. `exec_endsIn` ties it to `exec`. -/
def faultOf (i : Instr) (s : State) : Option FaultCode :=
  match i with
  | .rd n => if (regOf n).isSome then none else some .badReg
  | .frBuild _ opc _ _ _ _ => if ledOpcodeLegal opc then none else some .badLedOp
  | .frBuildT _ opc _ _ => if ledOpcodeTimed opc then none else some .badLedOp
  | .ctrSample _ _ _ => if s.baseValid then none else some .notInit
  | .clsClassify valid usage =>
    if valid = false then none
    else if s.thValid = false then some .notConfig
    else if isNaN usage then some .usageNan
    else none
  | .nop | .frVerify _ _ | .frStatus _ _ | .ctrInit _ _ | .clsSetth _ _ _ | .brightness _ _ | .rgb _ _ _ _
  | .onoff _ _ | .blink _ _ _ | .breath _ _ _ => none

/-- The fault a packet ends in: that of the check that refuses it, or that of its instruction. `step_endsIn` ties it to
`step`. -/
def requestFault (req : List Byte) (s : State) : Option FaultCode :=
  match decode req with
  | .error e => some e.faultCode
  | .ok i => faultOf i s

/-- A request begun in `s` and ended in `t` completed, FAULT as it was, or raised the fault and did nothing else. -/
inductive EndsIn (s t : State) (f : Option FaultCode) : Prop where
  | completed (hf : f = none) (hstatus : t.status = 0) (hfault : t.fault = s.fault)
  | faulted (c : FaultCode) (hf : f = some c) (hraise : t = s.raise c)

theorem endsIn_of_rd {n : Byte} {s t : State} (h : execRd n s = .next t) : EndsIn s t (faultOf (.rd n) s) := by
  obtain ⟨r, hr, rfl⟩ | ⟨hr, rfl⟩ := execRd_cases h
  · exact .completed (by simp [faultOf, hr]) rfl rfl
  · exact .faulted _ (by simp [faultOf, hr]) rfl

theorem endsIn_of_frBuild (s : State) (addr opc p0 p1 p2 p3 : Byte) :
    EndsIn s (s.buildFrame addr opc p0 p1 p2 p3) (faultOf (.frBuild addr opc p0 p1 p2 p3) s) := by
  obtain ⟨hlegal, heq⟩ | ⟨hreserved, heq⟩ := buildFrame_cases s addr opc p0 p1 p2 p3
  · exact .completed (by simp [faultOf, hlegal]) (heq ▸ rfl) (heq ▸ rfl)
  · exact .faulted _ (by simp [faultOf, hreserved]) heq

theorem endsIn_of_frBuildT (s : State) (addr opc : Byte) (tOn tOff : Half) :
    EndsIn s (s.buildTimedFrame addr opc tOn tOff) (faultOf (.frBuildT addr opc tOn tOff) s) := by
  obtain ⟨htimed, heq⟩ | ⟨huntimed, heq⟩ := buildTimedFrame_cases s addr opc tOn tOff
  · exact .completed (by simp [faultOf, htimed]) (heq ▸ rfl) (heq ▸ rfl)
  · exact .faulted _ (by simp [faultOf, huntimed]) heq

theorem endsIn_of_ctrSample {short : Bool} {rx tx : DWord} {s t : State} (h : execCtrSample short rx tx s = .next t) :
    EndsIn s t (faultOf (.ctrSample short rx tx) s) := by
  obtain ⟨hbase, rfl⟩ | ⟨hbase, rfl⟩ := execCtrSample_cases h
  · exact .completed (by simp [faultOf, hbase]) rfl rfl
  · exact .faulted _ (by simp [faultOf, hbase]) rfl

theorem endsIn_of_clsClassify {valid : Bool} {u : DWord} {s t : State} (h : execClsClassify valid u s = .next t) :
    EndsIn s t (faultOf (.clsClassify valid u) s) := by
  obtain ⟨rfl, rfl⟩ | ⟨rfl, hunset, rfl⟩ | ⟨rfl, hset, hnan, rfl⟩ | ⟨rfl, hset, hnumber, rfl⟩ :=
    execClsClassify_cases h
  · exact .completed rfl rfl rfl
  · exact .faulted _ (by simp [faultOf, hunset]) rfl
  · exact .faulted _ (by simp [faultOf, hset, hnan]) rfl
  · exact .completed (by simp [faultOf, hset, hnumber]) rfl rfl

/-- How each instruction ends. The LED commands complete: their opcodes are named ones. -/
theorem exec_endsIn {i : Instr} {s t : State} (h : exec i s = .next t) : EndsIn s t (faultOf i s) := by
  cases i with
  | rd n => exact endsIn_of_rd h
  | frBuild addr opc p0 p1 p2 p3 => exact Host.Outcome.next.inj h ▸ endsIn_of_frBuild s addr opc p0 p1 p2 p3
  | frBuildT addr opc tOn tOff => exact Host.Outcome.next.inj h ▸ endsIn_of_frBuildT s addr opc tOn tOff
  | ctrSample short rx tx => exact endsIn_of_ctrSample h
  | clsClassify valid u => exact endsIn_of_clsClassify h
  | nop | frVerify | frStatus | ctrInit | clsSetth | brightness | rgb | onoff | blink | breath =>
    exact Host.Outcome.next.inj h ▸ .completed rfl rfl rfl

/-- How each packet ends. -/
theorem step_endsIn {s t : State} {req : List Byte} {rest : List HostEvent} (hhost : s.host = .request req :: rest)
    (h : step s = .next t) : EndsIn (s.setHost rest) t (requestFault req (s.setHost rest)) := by
  rw [step_request hhost] at h
  unfold requestFault
  cases hdec : decode req with
  | error e => exact .faulted _ rfl (Host.Outcome.next.inj (runRequest_error hdec _ ▸ h)).symm
  | ok i => exact exec_endsIn (runRequest_ok hdec _ ▸ h)

/-- What STATUS held before decides no fault (R182). -/
theorem requestFault_status (req : List Byte) (s : State) (v : Byte) :
    requestFault req { s with status := v } = requestFault req s := rfl

/-- A reset event's step leaves every register at its reset value and the host's list without it (R200). -/
theorem step_reset {s : State} {p : Option (List Byte)} {rest : List HostEvent} (hhost : s.host = .reset p :: rest) :
    step s = .next (State.reset.setHost rest) := by
  simp [step, stepHost, hhost, runEvent, State.resetRegisters, State.setHost]

/-! ### What an end says of STATUS and FAULT -/

section
variable {s t : State} {f : Option FaultCode}

/-- STATUS is the code of the fault, 0 where there is none (R180). -/
theorem EndsIn.status_eq (h : EndsIn s t f) : t.status = f.elim 0 FaultCode.code := by
  cases h with
  | completed hf hstatus _ => exact hf ▸ hstatus
  | faulted c hf hraise => rw [hf, hraise, State.raise_status, Option.elim_some]

/-- R181: an end with STATUS not 0 is a fault, and a fault writes STATUS and its FAULT bit alone. -/
theorem EndsIn.precise (h : EndsIn s t f) (hne : t.status ≠ 0) :
    1 ≤ t.status.toNat ∧ t.status.toNat ≤ 8 ∧
      t = { s with status := t.status, fault := s.fault ||| (1#8 <<< (t.status.toNat - 1)) } := by
  cases h with
  | completed _ hstatus _ => exact absurd hstatus hne
  | faulted c _ hraise =>
    subst hraise
    obtain ⟨hlow, hhigh⟩ := code_range c
    exact ⟨hlow, hhigh, rfl⟩

/-- R182: no end clears a FAULT bit. -/
theorem EndsIn.keeps_bits (h : EndsIn s t f) : s.fault &&& t.fault = s.fault := by
  cases h with
  | completed _ _ hfault => rw [hfault, BitVec.and_self]
  | faulted c _ hraise => exact hraise ▸ raise_keeps_bits s c

/-- R182: a completing request leaves FAULT as it is. -/
theorem EndsIn.fault_eq_of_status (h : EndsIn s t f) (hzero : t.status = 0) : t.fault = s.fault := by
  cases h with
  | completed _ _ hfault => exact hfault
  | faulted c _ hraise =>
    subst hraise
    exact absurd hzero (code_ne_zero c)

end

/-! ### The two statements -/

/-- Settles O31: `EndsIn.precise`, for an instruction and for a packet. -/
theorem faultsArePrecise : Obligations.FaultsArePrecise := by
  unfold Obligations.FaultsArePrecise
  exact ⟨fun i s t h hne => (exec_endsIn h).precise hne,
    fun s t req rest hhost h hne => (step_endsIn hhost h).precise hne⟩

/-- Settles O32: the FAULT clauses by how a packet ends; the STATUS clause because the two runs end in one fault. -/
theorem faultBitsAreSticky : Obligations.FaultBitsAreSticky := by
  unfold Obligations.FaultBitsAreSticky
  refine ⟨fun s t req rest hhost h => ?packet, fun s p rest hhost => ?reset,
    fun s t t' v req rest hhost h h' => ?status, fun s => beq_iff_eq⟩
  case packet => exact ⟨(step_endsIn hhost h).keeps_bits, (step_endsIn hhost h).fault_eq_of_status⟩
  case reset => exact ⟨State.reset.setHost rest, step_reset hhost, rfl⟩
  case status =>
    have hend : EndsIn _ t' (requestFault req (s.setHost rest)) :=
      requestFault_status req (s.setHost rest) v ▸ step_endsIn (s := { s with status := v }) hhost h'
    rw [hend.status_eq, (step_endsIn hhost h).status_eq]

end Sys2Proof.Machine
end

section
/-! Reset (70_reset_and_hazards.md R200, R201): every register at 0, and no other event clears a FAULT bit. -/

namespace Sys2Proof.Machine

open Sys2Proof

/-- No register is in the host's list. -/
@[simp] theorem read_setHost (s : State) (rest : List HostEvent) (r : Reg) : (s.setHost rest).read r = s.read r := by
  cases r <;> rfl

/-- R182, R201: a request keeps every FAULT bit, so an event that clears one is a reset. -/
theorem exists_reset_of_bits_cleared {s t : State} {e : HostEvent} {rest : List HostEvent} (hhost : s.host = e :: rest)
    (h : step s = .next t) (hcleared : s.fault &&& t.fault ≠ s.fault) : ∃ p, e = .reset p := by
  cases e with
  | request req => exact absurd (step_endsIn hhost h).keeps_bits hcleared
  | reset p => exact ⟨p, rfl⟩

/-- Settles O34: a reset event's step ends in the reset state with the host's list, which no register reads; the FAULT
clause is `exists_reset_of_bits_cleared`. -/
theorem resetClearsEveryRegister : Obligations.ResetClearsEveryRegister := by
  unfold Obligations.ResetClearsEveryRegister
  refine ⟨read_reset, rfl, fun s p rest hhost => ?resetEvent, fun s t e rest => exists_reset_of_bits_cleared⟩
  case resetEvent =>
    have hread (r : Reg) : (State.reset.setHost rest).read r = 0 := (read_setHost State.reset rest r).trans (read_reset r)
    exact ⟨State.reset.setHost rest, step_reset hhost, hread, rfl⟩

end Sys2Proof.Machine
end

section
/-! What a completing instruction writes, said once: with `faultOf` this is all an instruction can do. -/

namespace Sys2Proof.Machine

open Sys2Proof

/-- The registers after what a completing instruction writes, STATUS apart. RD of a reserved number, which never completes,
is given RDATA's own value. `exec_eq` ties it to `exec`. -/
def writeOf (i : Instr) (s : State) : State :=
  match i with
  | .nop => s
  | .rd n => s.loadRData ((regOf n).elim s.rdata s.read)
  | .frBuild addr opc p0 p1 p2 p3 => s.loadFrame addr (commandFrame opc p0 p1 p2 p3)
  | .frBuildT addr opc tOn tOff => s.loadFrame addr (timedFrame opc tOn tOff)
  | .frVerify rlen b => s.loadVerdict rlen b
  | .frStatus rlen b => (s.loadVerdict rlen b).loadSnapshot (Snapshot.decode rlen b)
  | .ctrInit rx tx => (s.loadBaseline rx tx).setBaseValid.loadReading 0 0 false false false
  | .ctrSample short rx tx =>
    (s.loadReading (wdelta rx s.baseRx) (wdelta tx s.baseTx) (deltaValidOf short) (wrapFlag rx s.baseRx)
      (wrapFlag tx s.baseTx)).loadBaseline rx tx
  | .clsSetth low med high => s.loadThresholds low med high
  | .clsClassify true usage => s.loadVisual (classify usage s.thLow s.thMed s.thHigh)
  | .clsClassify false _ => s.skipVisual
  | .brightness addr level => s.loadFrame addr (commandFrame ledBrightness level 0 0 0)
  | .rgb addr r g b => s.loadFrame addr (commandFrame ledRgb r g b 0)
  | .onoff addr on => s.loadFrame addr (commandFrame ledOnoff (flagByte on) 0 0 0)
  | .blink addr tOn tOff => s.loadFrame addr (timedFrame ledBlink tOn tOff)
  | .breath addr tOn tOff => s.loadFrame addr (timedFrame ledBreath tOn tOff)

/-- The state an instruction answers: its write and STATUS 0, or its fault. -/
def answerOf (i : Instr) (s : State) : State := (faultOf i s).elim (writeOf i s).complete s.raise

/-- Every instruction answers a next state (R186), and this is it. -/
theorem exec_eq (i : Instr) (s : State) : exec i s = .next (answerOf i s) := by
  cases i with
  | rd n => cases hr : regOf n <;> simp [exec, execRd, answerOf, faultOf, writeOf, hr]
  | frBuild addr opc p0 p1 p2 p3 =>
    cases hopc : ledOpcodeLegal opc <;> simp [exec, execFrBuild, State.buildFrame, answerOf, faultOf, writeOf, hopc]
  | frBuildT addr opc tOn tOff =>
    cases hopc : ledOpcodeTimed opc <;> simp [exec, execFrBuildT, State.buildTimedFrame, answerOf, faultOf, writeOf, hopc]
  | ctrSample short rx tx => cases hbase : s.baseValid <;> simp [exec, execCtrSample, answerOf, faultOf, writeOf, hbase]
  | clsClassify valid u =>
    cases valid with
    | false => rfl
    | true =>
      cases hset : s.thValid <;> cases hnan : isNaN u <;>
        simp [exec, execClsClassify, answerOf, faultOf, writeOf, hset, hnan]
  | nop | frVerify | frStatus | ctrInit | clsSetth | brightness | rgb | onoff | blink | breath => rfl

/-- The two ways an instruction ends. -/
theorem exec_cases {i : Instr} {s t : State} (h : exec i s = .next t) :
    (faultOf i s = none ∧ t = (writeOf i s).complete) ∨ (∃ c, faultOf i s = some c ∧ t = s.raise c) := by
  obtain rfl : answerOf i s = t := Host.Outcome.next.inj ((exec_eq i s).symm.trans h)
  unfold answerOf
  cases hf : faultOf i s with
  | none => exact .inl ⟨rfl, rfl⟩
  | some c => exact .inr ⟨c, rfl, rfl⟩

/-- STATUS 0 tells the first way from the second. -/
theorem exec_completes {i : Instr} {s t : State} (h : exec i s = .next t) (hzero : t.status = 0) :
    faultOf i s = none ∧ t = (writeOf i s).complete := by
  obtain hdone | ⟨c, -, rfl⟩ := exec_cases h
  · exact hdone
  · exact absurd hzero (code_ne_zero c)

/-- No write reaches the host's list. -/
theorem writeOf_host (i : Instr) (s : State) : (writeOf i s).host = s.host := by
  cases i with
  | clsClassify valid u => cases valid <;> rfl
  | _ => rfl

/-- The gates decide a request's fault, and completing leaves it decided the same way. -/
theorem faultOf_writeOf {i : Instr} {s : State} (h : faultOf i s = none) :
    faultOf i (writeOf i s).complete = none := by
  cases i with
  | clsClassify valid u =>
    cases valid with
    | false => rfl
    | true => exact h
  | _ => exact h

/-- Settles O8: `exec_eq` gives each instruction's next state, and each kind of step has one. -/
theorem everyStepAnswersNext : Obligations.EveryStepAnswersNext := by
  unfold Obligations.EveryStepAnswersNext
  refine ⟨fun i s => ⟨_, exec_eq i s⟩, fun s => ?_⟩
  obtain ⟨-, hwait⟩ | ⟨_, _, -, hreset⟩ | ⟨_, _, _, -, -, hrefused⟩ | ⟨_, _, i, -, -, hruns⟩ := step_cases (s := s) rfl
  · exact ⟨_, hwait⟩
  · exact ⟨_, hreset⟩
  · exact ⟨_, hrefused⟩
  · exact ⟨_, hruns.trans (exec_eq i _)⟩

/-- Settles O5: the four kinds of step. -/
theorem stepRunsTheDecodedRequest : Obligations.StepRunsTheDecodedRequest := by
  unfold Obligations.StepRunsTheDecodedRequest
  refine ⟨fun s req rest i hhost hdec => ?runs, fun s req rest e hhost hdec => step_refused hhost hdec,
    fun s p rest hhost => step_reset hhost, fun s hhost => ?waits⟩
  case runs =>
    rw [step_request hhost, runRequest_ok hdec]
    rfl
  case waits => simp [step, stepHost, hhost]

/-- Settles O33: STATUS is 0 or the code of the fault the packet ends in. -/
theorem statusHoldsALegalCode : Obligations.StatusHoldsALegalCode := by
  unfold Obligations.StatusHoldsALegalCode
  refine ⟨fun s t req rest hhost h => ?code, fun s => ⟨_, rfl, rfl, rfl⟩, rfl⟩
  case code =>
    rw [(step_endsIn hhost h).status_eq]
    cases requestFault req (s.setHost rest) with
    | none => exact Nat.zero_le 8
    | some c => exact (code_range c).2

end Sys2Proof.Machine
end

section
/-! The legal states: each write keeps the register rules of 10_state.md, and so does every step. -/

namespace Sys2Proof

/-! ### What a command frame and a snapshot satisfy -/

theorem chk9_commandFrame_toNat (opc p0 p1 p2 p3 : Byte) :
    (chk9 (commandFrame opc p0 p1 p2 p3)).toNat =
      0xA1 + opc.toNat + p0.toNat + p1.toNat + p2.toNat + p3.toNat := by
  rw [chk9_toNat]
  simp [sum9, commandFrame, Frame.seal]

/-- The range of a built frame's checksum: opcodes 1 to 5 and four bytes above the header's 0xA1. -/
theorem chk9_commandFrame_range {opc : Byte} (hopc : ledOpcodeLegal opc = true) (p0 p1 p2 p3 : Byte) :
    0x00A2 ≤ (chk9 (commandFrame opc p0 p1 p2 p3)).toNat ∧ (chk9 (commandFrame opc p0 p1 p2 p3)).toNat ≤ 0x04A2 := by
  obtain ⟨hlow, hhigh⟩ := (Machine.ledOpcodeLegal_iff opc).mp hopc
  have := p0.isLt; have := p1.isLt; have := p2.isLt; have := p3.isLt
  rw [chk9_commandFrame_toNat]
  omega

/-- The checksum bytes of a command frame are its checksum. -/
theorem be16_commandFrame (opc p0 p1 p2 p3 : Byte) :
    be16 (commandFrame opc p0 p1 p2 p3).b9 (commandFrame opc p0 p1 p2 p3).b10 =
      chk9 (commandFrame opc p0 p1 p2 p3) :=
  be16_hiByte_loByte _

theorem bigEndian_pair (a b : Byte) : bigEndian [a, b] = (be16 a b).toNat := by
  simp [bigEndian, be16_toNat]

/-- VERIFY11 holds of no zero sum (R113). -/
theorem chk9_ne_zero_of_verify11 {rlen : Byte} {b : Frame} (h : verify11 rlen b = true) : chk9 b ≠ 0 := by
  rw [verify11, Bool.and_eq_true, Bool.and_eq_true, bne_iff_ne] at h
  obtain ⟨⟨-, hnonzero⟩, -⟩ := h
  exact hnonzero

end Sys2Proof

namespace Sys2Proof.Machine

open Sys2Proof

/-- A command frame of a named opcode, with its checksum, is whole (R27, R28). -/
theorem frameLegal_loadFrame {opc : Byte} (hopc : ledOpcodeLegal opc = true) (s : State) (addr p0 p1 p2 p3 : Byte) :
    frameLegal (s.loadFrame addr (commandFrame opc p0 p1 p2 p3)) := by
  obtain ⟨hlow, hhigh⟩ := (ledOpcodeLegal_iff opc).mp hopc
  obtain ⟨hmin, hmax⟩ := chk9_commandFrame_range hopc p0 p1 p2 p3
  refine .inr ⟨rfl, rfl, rfl, rfl, hlow, hhigh, chk9_toNat _, ?_, hmin, hmax⟩
  rw [bigEndian_pair, State.loadFrame_cframe, be16_commandFrame, State.loadFrame_csum]

/-- FR_STATUS leaves a whole snapshot or an empty one (R116). -/
theorem snapshotLegal_decode (rlen : Byte) (b : Frame) : snapshotLegal (Snapshot.decode rlen b) := by
  obtain ⟨-, -, mode, -, hwhole⟩ | ⟨reason, -, -, hempty⟩ := snapshotDecode_cases rlen b
  · rw [hwhole]
    exact ⟨rfl, rfl, rfl, decide_eq_true_iff⟩
  · rw [hempty]
    exact ⟨rfl, rfl, rfl, rfl, rfl, rfl, rfl, rfl, rfl, rfl⟩

/-- R147: a delta across a wrap is at most U64_MAX - 1. -/
theorem wdelta_le_of_wrapFlag {cur prev : DWord} (h : wrapFlag cur prev = true) :
    (wdelta cur prev).toNat ≤ 2 ^ 64 - 2 := by
  have hlt : cur.toNat < prev.toNat := of_decide_eq_true h
  have := prev.isLt
  rw [wdelta_toNat_of_lt hlt]
  omega

/-! ### The initial state -/

/-- Settles O40. -/
theorem resetStateIsLegal : Obligations.ResetStateIsLegal where
  status_legal := by decide
  status_recorded := fun h => absurd rfl h
  frame_legal := .inl ⟨rfl, rfl⟩
  vsum_legal := by decide
  vok_nonzero := fun h => absurd h (by decide)
  snapshot_legal := ⟨rfl, rfl, rfl, rfl, rfl, rfl, rfl, rfl, rfl, rfl⟩
  counter_unset := fun _ => ⟨rfl, rfl, rfl, rfl, rfl, rfl, rfl⟩
  wrap_rx_range := fun h => absurd h (by decide)
  wrap_tx_range := fun h => absurd h (by decide)
  classifier_unset := fun _ => ⟨rfl, rfl, rfl, rfl, rfl⟩

/-! ### Each write -/

section
variable {s : State}

/-- The host's list is in no register rule. -/
theorem State.Inv.setHost (h : s.Inv) (rest : List HostEvent) : (s.setHost rest).Inv := { h with }

theorem State.Inv.raise (h : s.Inv) (c : FaultCode) : (s.raise c).Inv :=
  { h with status_legal := (code_range c).2, status_recorded := fun _ => raise_records s c }

theorem State.Inv.complete (h : s.Inv) : s.complete.Inv :=
  { h with status_legal := Nat.zero_le 8, status_recorded := fun hne => absurd rfl hne }

/-- RDATA is in no register rule. -/
theorem State.Inv.loadRData (h : s.Inv) (v : DWord) : (s.loadRData v).Inv := { h with }

theorem State.Inv.loadFrame (h : s.Inv) {opc : Byte} (hopc : ledOpcodeLegal opc = true) (addr p0 p1 p2 p3 : Byte) :
    (s.loadFrame addr (commandFrame opc p0 p1 p2 p3)).Inv :=
  { h with frame_legal := frameLegal_loadFrame hopc s addr p0 p1 p2 p3 }

theorem State.Inv.loadVerdict (h : s.Inv) (rlen : Byte) (b : Frame) : (s.loadVerdict rlen b).Inv :=
  { h with
    vsum_legal := (chk9_toNat b).trans_le (sum9_le b)
    vok_nonzero := chk9_ne_zero_of_verify11 }

theorem State.Inv.loadSnapshot (h : s.Inv) {p : Snapshot} (hp : snapshotLegal p) : (s.loadSnapshot p).Inv :=
  { h with snapshot_legal := hp }

/-- A fresh baseline sets its gate and has no reading (R140). -/
theorem State.Inv.ctrInit (h : s.Inv) (rx tx : DWord) :
    ((s.loadBaseline rx tx).setBaseValid.loadReading 0 0 false false false).Inv :=
  { h with
    counter_unset := fun hv => absurd hv (by simp)
    wrap_rx_range := fun hv => absurd hv (by simp)
    wrap_tx_range := fun hv => absurd hv (by simp) }

/-- A reading is made with the gate set, and its wrap flags are those of its deltas (R143). -/
theorem State.Inv.ctrSample (h : s.Inv) (hbase : s.baseValid = true) (valid : Bool) (rx tx : DWord) :
    ((s.loadReading (wdelta rx s.baseRx) (wdelta tx s.baseTx) valid (wrapFlag rx s.baseRx)
      (wrapFlag tx s.baseTx)).loadBaseline rx tx).Inv :=
  { h with
    counter_unset := fun hv => absurd hbase (ne_true_of_eq_false hv)
    wrap_rx_range := fun _ => wdelta_le_of_wrapFlag
    wrap_tx_range := fun _ => wdelta_le_of_wrapFlag }

theorem State.Inv.loadThresholds (h : s.Inv) (low med high : Byte) : (s.loadThresholds low med high).Inv :=
  { h with classifier_unset := fun hv => absurd hv (by simp) }

theorem State.Inv.loadVisual (h : s.Inv) (hset : s.thValid = true) (v : VisualState) : (s.loadVisual v).Inv :=
  { h with classifier_unset := fun hv => absurd hset (ne_true_of_eq_false hv) }

theorem State.Inv.skipVisual (h : s.Inv) : s.skipVisual.Inv :=
  { h with
    classifier_unset := fun hv =>
      let ⟨hlow, hmed, hhigh, hoff, _⟩ := h.classifier_unset hv
      ⟨hlow, hmed, hhigh, hoff, rfl⟩ }

end

/-! ### Every instruction and every step -/

/-- CLS_CLASSIFY with VALID = 1 completes with thresholds set alone. -/
theorem thValid_of_classify_completes {u : DWord} {s : State} (h : faultOf (.clsClassify true u) s = none) :
    s.thValid = true := by
  cases hset : s.thValid with
  | true => rfl
  | false => simp [faultOf, hset] at h

theorem State.Inv.writeOf {i : Instr} {s : State} (h : s.Inv) (hf : faultOf i s = none) : (writeOf i s).Inv := by
  cases i with
  | nop => exact h
  | rd n => exact h.loadRData _
  | frBuild addr opc p0 p1 p2 p3 => exact h.loadFrame (by simpa [faultOf] using hf) addr p0 p1 p2 p3
  | frBuildT addr opc tOn tOff =>
    have htimed : ledOpcodeTimed opc = true := by simpa [faultOf] using hf
    exact h.loadFrame (ledOpcodeLegal_of_timed htimed) addr _ _ _ _
  | frVerify rlen b => exact h.loadVerdict rlen b
  | frStatus rlen b => exact (h.loadVerdict rlen b).loadSnapshot (snapshotLegal_decode rlen b)
  | ctrInit rx tx => exact h.ctrInit rx tx
  | ctrSample short rx tx => exact h.ctrSample (by simpa [faultOf] using hf) _ rx tx
  | clsSetth low med high => exact h.loadThresholds low med high
  | clsClassify valid u =>
    cases valid with
    | false => exact h.skipVisual
    | true => exact h.loadVisual (thValid_of_classify_completes hf) _
  | brightness addr level => exact h.loadFrame rfl addr level 0 0 0
  | rgb addr r g b => exact h.loadFrame rfl addr r g b 0
  | onoff addr on => exact h.loadFrame rfl addr _ 0 0 0
  | blink addr tOn tOff => exact h.loadFrame rfl addr _ _ _ _
  | breath addr tOn tOff => exact h.loadFrame rfl addr _ _ _ _

theorem State.Inv.exec {i : Instr} {s t : State} (h : s.Inv) (hexec : exec i s = .next t) : t.Inv := by
  obtain ⟨hf, rfl⟩ | ⟨c, -, rfl⟩ := exec_cases hexec
  · exact (h.writeOf hf).complete
  · exact h.raise c

/-- Settles O39: a step waits, resets, refuses a packet, or runs an instruction, and each keeps the invariant. -/
theorem everyStepKeepsLegalState : Obligations.EveryStepKeepsLegalState := by
  unfold Obligations.EveryStepKeepsLegalState
  intro s t h hstep
  obtain ⟨-, ht⟩ | ⟨_, rest, -, ht⟩ | ⟨_, rest, e, -, -, ht⟩ | ⟨_, rest, i, -, -, ht⟩ := step_cases hstep
  · cases ht; exact h
  · cases ht; exact resetStateIsLegal.setHost rest
  · cases ht; exact (h.setHost rest).raise e.faultCode
  · exact (h.setHost rest).exec ht.symm

end Sys2Proof.Machine
end

section
/-! Request packets (30_encoding.md R70 to R75, R86, R87): decoding against encoding, byte streams, and running a
packet. -/

namespace Sys2Proof

/-! ### From an instruction to its packet and back -/

/-- Every packet is the op byte of its request and a body. -/
theorem encode_eq_cons (i : Instr) : ∃ body, encode i = i.op.byte :: body ∧ body.length + 1 = i.op.length := by
  cases i <;> exact ⟨_, rfl, rfl⟩

/-- A flags byte is written with its reserved bits 0 (R74). -/
theorem hasBadField_encode (i : Instr) : hasBadField i.op (encode i) = false := by
  cases i with
  | ctrSample short _ _ => exact reservedFlagBits_flagByte short
  | clsClassify valid _ => exact reservedFlagBits_flagByte valid
  | _ => rfl

/-- The eight bytes of a 64-bit operand weigh back to it. -/
theorem ofNat_beNat_bytes64 (v : DWord) : BitVec.ofNat 64 (beNat (bytes64 v)) = v := by
  rw [beNat_bytes64, BitVec.ofNat_toNat, BitVec.setWidth_eq]

/-- Each operand is read back from the position it is written at (R72). -/
theorem operandsOf_encode (i : Instr) : operandsOf i.op (encode i) = i.expand := by
  cases i with
  | frBuildT addr opc tOn tOff =>
    exact congrArg₂ (Instr.frBuildT addr opc) (be16_hiByte_loByte tOn) (be16_hiByte_loByte tOff)
  | blink addr tOn tOff =>
    exact congrArg₂ (Instr.frBuildT addr ledBlink) (be16_hiByte_loByte tOn) (be16_hiByte_loByte tOff)
  | breath addr tOn tOff =>
    exact congrArg₂ (Instr.frBuildT addr ledBreath) (be16_hiByte_loByte tOn) (be16_hiByte_loByte tOff)
  | ctrInit rx tx => exact congrArg₂ Instr.ctrInit (ofNat_beNat_bytes64 rx) (ofNat_beNat_bytes64 tx)
  | ctrSample short rx tx =>
    exact congr (congrArg₂ Instr.ctrSample (flagBit_flagByte short) (ofNat_beNat_bytes64 rx)) (ofNat_beNat_bytes64 tx)
  | clsClassify valid usage =>
    exact congrArg₂ Instr.clsClassify (flagBit_flagByte valid) (ofNat_beNat_bytes64 usage)
  | _ => rfl

/-- Decoding the packet of an instruction gives the request it is sent as. -/
theorem decode_encode (i : Instr) : decode (encode i) = .ok i.expand := by
  obtain ⟨body, hcons, hlen⟩ := encode_eq_cons i
  have hflags := hasBadField_encode i
  rw [← operandsOf_encode i]
  rw [hcons] at hflags ⊢
  exact decode_wellFormed hlen hflags

/-- A request is its own expansion. -/
theorem expand_of_isRequest {i : Instr} (h : i.isRequest = true) : i.expand = i := by
  cases i with
  | brightness | rgb | onoff | blink | breath => exact absurd h Bool.false_ne_true
  | _ => rfl

/-! ### From a packet to its instruction and back -/

/-- A packet decodes only as its op byte, its length and its flags byte let it. -/
theorem decode_ok_cases {req : List Byte} {i : Instr} (h : decode req = .ok i) :
    ∃ op body, req = op.byte :: body ∧ body.length + 1 = op.length ∧ hasBadField op req = false ∧
      i = operandsOf op req := by
  cases req with
  | nil => exact nomatch h
  | cons b body =>
    cases hop : opOf b with
    | none => exact nomatch (decode_illegalOp hop body).symm.trans h
    | some op =>
      obtain rfl := byte_of_opOf hop
      by_cases hlen : body.length + 1 = op.length
      · cases hflags : hasBadField op (op.byte :: body) with
        | true => exact nomatch (decode_badField hop hlen hflags).symm.trans h
        | false => exact ⟨op, body, rfl, hlen, hflags, (Except.ok.inj ((decode_wellFormed hlen hflags).symm.trans h)).symm⟩
      · exact nomatch (decode_badLength hop hlen).symm.trans h

theorem bytes16_be16At (req : List Byte) (i : Nat) : bytes16 (be16At req i) = [byteAt req i, byteAt req (i + 1)] :=
  congrArg₂ (fun a b => [a, b]) (hiByte_be16 _ _) (loByte_be16 _ _)

theorem bytes64_be64At (req : List Byte) (i : Nat) :
    bytes64 (be64At req i) =
      [byteAt req i, byteAt req (i + 1), byteAt req (i + 2), byteAt req (i + 3),
       byteAt req (i + 4), byteAt req (i + 5), byteAt req (i + 6), byteAt req (i + 7)] :=
  bytes64_beNat _ _ _ _ _ _ _ _

/-- A byte string is the list of its bytes. -/
theorem map_byteAt_range (req : List Byte) : (List.range req.length).map (byteAt req) = req := by
  apply List.ext_getElem
  · simp
  · intro i _ hi
    simp [byteAt, hi]

/-- The operands of a packet are written back where they were read. -/
theorem encode_operandsOf_eq_map {op : Op} {req : List Byte} (hop : byteAt req 0 = op.byte)
    (hflags : hasBadField op req = false) :
    encode (operandsOf op req) = (List.range op.length).map (byteAt req) := by
  cases op with
  | ctrSample | clsClassify =>
    simp only [operandsOf, encode, bytes64_be64At, flagByte_of_not_reserved hflags]
    exact congrArg (· :: _) hop.symm
  | nop | rd | frBuild | frBuildT | frVerify | frStatus | ctrInit | clsSetth =>
    simp only [operandsOf, encode, bytes16_be16At, bytes64_be64At]
    exact congrArg (· :: _) hop.symm

/-- A packet that decodes is the packet of what it decodes to. -/
theorem encode_of_decode {req : List Byte} {i : Instr} (h : decode req = .ok i) : encode i = req := by
  obtain ⟨op, body, hreq, hlen, hflags, rfl⟩ := decode_ok_cases h
  have hop : byteAt req 0 = op.byte := hreq ▸ rfl
  have hlength : op.length = req.length := by rw [← hlen, hreq, List.length_cons]
  rw [encode_operandsOf_eq_map hop hflags, hlength, map_byteAt_range]

theorem isRequest_operandsOf (op : Op) (req : List Byte) : (operandsOf op req).isRequest = true := by
  cases op <;> rfl

/-- The decoder answers with no LED command. -/
theorem isRequest_of_decode {req : List Byte} {i : Instr} (h : decode req = .ok i) : i.isRequest = true := by
  obtain ⟨op, _, _, _, _, rfl⟩ := decode_ok_cases h
  exact isRequest_operandsOf op req

/-- Settles O41: `decode_encode` one way, `encode_of_decode` the other. -/
theorem decodeInvertsEncode : Obligations.DecodeInvertsEncode := by
  unfold Obligations.DecodeInvertsEncode
  refine ⟨fun i hi => ?_, decode_encode, fun req i h => ⟨isRequest_of_decode h, encode_of_decode h⟩⟩
  rw [decode_encode, expand_of_isRequest hi]

/-- Settles O45: each packet and frame is evaluated. -/
theorem writtenOutPacketsDecode : Obligations.WrittenOutPacketsDecode := by
  unfold Obligations.WrittenOutPacketsDecode
  decide

end Sys2Proof

namespace Sys2Proof.Machine

open Sys2Proof

/-! ### Running a packet -/

/-- Running an instruction's packet is running the instruction. -/
theorem runRequest_encode (i : Instr) (s : State) : runRequest (encode i) s = exec i s := by
  rw [runRequest_ok (decode_encode i), exec_expand]

/-- Settles O6. -/
theorem stepRunsEveryEncodedInstruction : Obligations.StepRunsEveryEncodedInstruction := by
  unfold Obligations.StepRunsEveryEncodedInstruction
  intro i s rest hhost
  rw [step_request hhost, runRequest_encode]
  rfl

/-- The packet of a table word runs as the instruction the word stands for, an LED-frame row's word being sent as that
instruction's own packet. -/
theorem runRequest_tablePacket {nbits w : Nat} {i : Instr} (h : decodeTableWord nbits w = some i) (s : State) :
    runRequest (tablePacket nbits w) s = exec i s := by
  unfold decodeTableWord at h
  cases hrow : isLedRow nbits with
  | true =>
    rw [hrow, if_pos rfl] at h
    have hpacket : tablePacket nbits w = encode i := by simp [tablePacket, hrow, h]
    rw [hpacket, runRequest_encode]
  | false =>
    rw [hrow, if_neg Bool.false_ne_true] at h
    cases hdec : decode (tablePacket nbits w) with
    | error e => simp [hdec, Except.toOption] at h
    | ok j =>
      obtain rfl : j = i := by simpa [hdec, Except.toOption] using h
      exact runRequest_ok hdec s

/-- Settles O7: the word's packet is the next event, and taking it leaves the state as it was. -/
theorem tableWordRunsAsItsInstruction : Obligations.TableWordRunsAsItsInstruction := by
  unfold Obligations.TableWordRunsAsItsInstruction
  intro s nbits w i h
  have hhost : (s.withFetchWord nbits w).host = .request (tablePacket nbits w) :: s.host := rfl
  rw [step_request hhost, runRequest_tablePacket h]
  rfl

end Sys2Proof.Machine

namespace Sys2Proof

/-! ### Byte streams (R87) -/

/-- The packet is as long as its op byte says. -/
def IsPacket (req : List Byte) : Prop :=
  ∃ (b : Byte) (body : List Byte) (op : Op), req = b :: body ∧ opOf b = some op ∧ req.length = op.length

/-- The first packet of a stream is split off whole. -/
theorem takeRequest_append {req : List Byte} (h : IsPacket req) (rest : List Byte) :
    takeRequest (req ++ rest) = .ok (req, rest) := by
  obtain ⟨b, body, op, rfl, hop, hlen⟩ := h
  simp only [List.cons_append, takeRequest, hop]
  rw [← List.cons_append, ← hlen, if_neg (by simp), List.take_left, List.drop_left]

/-- With fuel for each packet, the packets of a stream are split off one by one, up to where the rest of it stops. -/
theorem splitStreamFuel_flatten_append {reqs : List (List Byte)} (h : ∀ req ∈ reqs, IsPacket req) (fuel : Nat)
    (rest : List Byte) :
    splitStreamFuel (reqs.length + fuel) (reqs.flatten ++ rest) = (splitStreamFuel fuel rest).map (reqs ++ ·) := by
  induction reqs with
  | nil => cases hrest : splitStreamFuel fuel rest <;> simp [hrest, Except.map]
  | cons req reqs ih =>
    rw [List.forall_mem_cons] at h
    obtain ⟨hreq, hreqs⟩ := h
    have htake := takeRequest_append hreq (reqs.flatten ++ rest)
    obtain ⟨b, body, op, rfl, -, -⟩ := hreq
    rw [List.flatten_cons, List.append_assoc, List.length_cons, Nat.succ_add]
    rw [List.cons_append] at htake ⊢
    simp only [splitStreamFuel, htake, ih hreqs]
    cases splitStreamFuel fuel rest <;> rfl

/-- Every packet has a byte, so a stream has at least as many bytes as packets. -/
theorem length_le_length_flatten {reqs : List (List Byte)} (h : ∀ req ∈ reqs, IsPacket req) :
    reqs.length ≤ reqs.flatten.length := by
  induction reqs with
  | nil => exact Nat.le_refl 0
  | cons req reqs ih =>
    rw [List.forall_mem_cons] at h
    obtain ⟨⟨b, body, op, rfl, -, -⟩, hreqs⟩ := h
    have := ih hreqs
    simp only [List.flatten_cons, List.length_append, List.length_cons]
    omega

/-- The fuel of `splitStream` suffices for the packets, and leaves some for what comes after them. -/
theorem splitStream_flatten_append {reqs : List (List Byte)} (h : ∀ req ∈ reqs, IsPacket req) (rest : List Byte) :
    ∃ fuel, splitStream (reqs.flatten ++ rest) = (splitStreamFuel fuel rest).map (reqs ++ ·) := by
  have hle : reqs.length ≤ (reqs.flatten ++ rest).length :=
    (length_le_length_flatten h).trans (by simp)
  obtain ⟨fuel, hfuel⟩ := Nat.exists_eq_add_of_le hle
  exact ⟨fuel, by rw [splitStream, hfuel, splitStreamFuel_flatten_append h]⟩

/-- At a reserved op byte the decoder stops, whatever fuel is left (R76, R87). -/
theorem splitStreamFuel_illegalOp {b : Byte} (h : opOf b = none) (fuel : Nat) (rest : List Byte) :
    splitStreamFuel fuel (b :: rest) = .error (.illegalOp b) := by
  cases fuel with
  | zero => rfl
  | succ fuel => simp [splitStreamFuel, takeRequest, h]

/-- Settles O43: the packets are split off first; then the stream ends, or the reserved op byte stops the decoder. -/
theorem streamsSplitIntoTheirRequests : Obligations.StreamsSplitIntoTheirRequests := by
  unfold Obligations.StreamsSplitIntoTheirRequests
  refine fun reqs hreqs => ⟨?ends, fun b rest hreserved => ?stops⟩
  case ends =>
    obtain ⟨fuel, hsplit⟩ := splitStream_flatten_append hreqs []
    rw [List.append_nil] at hsplit
    simp [hsplit, splitStreamFuel, Except.map]
  case stops =>
    obtain ⟨fuel, hsplit⟩ := splitStream_flatten_append hreqs (b :: rest)
    rw [hsplit, splitStreamFuel_illegalOp hreserved]
    rfl

end Sys2Proof
end

section
/-! Built frames (40_framer.md section 5): their checksum, their verification, their times, and reading LED commands
back (30_encoding.md R78, R79). -/

namespace Sys2Proof

/-! ### Verification -/

/-- A command frame verifies: its sum is not 0 and its last two bytes are that sum (R113). -/
theorem verify11_commandFrame (opc p0 p1 p2 p3 : Byte) : verify11 11 (commandFrame opc p0 p1 p2 p3) = true := by
  have hnonzero := chk9_commandFrame_ne_zero opc p0 p1 p2 p3
  rw [verify11, be16_commandFrame, bne_iff_ne.mpr hnonzero, beq_self_eq_true, beq_self_eq_true]
  rfl

/-- Eleven bytes that verify carry their own checksum. -/
theorem chk9_eq_be16_of_verify11 {f : Frame} (h : verify11 11 f = true) : chk9 f = be16 f.b9 f.b10 := by
  rw [verify11, Bool.and_eq_true, beq_iff_eq (b := be16 f.b9 f.b10)] at h
  obtain ⟨-, hsum⟩ := h
  exact hsum

/-- A frame that verifies is sealed: its checksum bytes are the ones `Frame.seal` writes. -/
theorem seal_eq_self_of_verify11 {f : Frame} (h : verify11 11 f = true) : f.seal = f := by
  rw [Frame.seal, chk9_eq_be16_of_verify11 h, hiByte_be16, loByte_be16]

/-- Nine bytes sum to 0 only where each is 0: nothing is lost to the reduction (R113). -/
theorem chk9_eq_zero_iff (f : Frame) :
    chk9 f = 0 ↔ f.b0 = 0 ∧ f.b1 = 0 ∧ f.b2 = 0 ∧ f.b3 = 0 ∧ f.b4 = 0 ∧ f.b5 = 0 ∧ f.b6 = 0 ∧ f.b7 = 0 ∧ f.b8 = 0 := by
  have hbyte (b : Byte) : b = 0 ↔ b.toNat = 0 := BitVec.toNat_inj.symm
  have hsum : chk9 f = 0 ↔ sum9 f = 0 := by rw [← BitVec.toNat_inj, chk9_toNat]; rfl
  simp only [hsum, hbyte, sum9]
  omega

/-- A zero sum is refused, whatever the length and the trailing bytes (R113). -/
theorem verify11_of_chk9_eq_zero {f : Frame} (h : chk9 f = 0) (rlen : Byte) : verify11 rlen f = false :=
  Bool.eq_false_iff.mpr fun hverified => chk9_ne_zero_of_verify11 hverified h

/-! ### The times of a timed frame -/

/-- R117 undoes R109, whether or not the sum wrapped. -/
theorem tOffOf_tHighOf (tOn tOff : Half) : tOffOf (tHighOf tOn tOff) tOn = tOff := by
  rw [tOffOf, tHighOf, BitVec.add_comm, BitVec.add_sub_cancel]

theorem tHighOf_tOffOf (tHigh tLow : Half) : tHighOf tLow (tOffOf tHigh tLow) = tHigh := by
  rw [tHighOf, tOffOf, BitVec.add_comm, BitVec.sub_add_cancel]

/-- `t_high` is below `t_low` exactly where the sum of the times wrapped. -/
theorem timeAnomaly_tHighOf (tOn tOff : Half) :
    timeAnomaly (tHighOf tOn tOff) tOn = true ↔ 2 ^ 16 ≤ tOn.toNat + tOff.toNat := by
  have := tOn.isLt
  have := tOff.isLt
  rw [timeAnomaly, decide_eq_true_iff, BitVec.lt_def, tHighOf, BitVec.toNat_add]
  omega

/-! ### Reading a command frame back -/

/-- A command frame passes the header and checksum checks, so what it reads back as is decided by its opcode and its
parameters. -/
theorem decodeLedFrame_commandFrame (addr opc p0 p1 p2 p3 : Byte) :
    decodeLedFrame addr (commandFrame opc p0 p1 p2 p3) = ledCommandOf addr opc p0 p1 p2 p3 := by
  rw [decodeLedFrame, if_pos ⟨rfl, rfl, rfl, rfl⟩, if_pos (verify11_commandFrame opc p0 p1 p2 p3)]
  rfl

/-- A frame that reads back as a command is the command frame of its opcode and parameters. -/
theorem eq_commandFrame_of_decodeLedFrame {addr : Byte} {f : Frame} {i : Instr} (h : decodeLedFrame addr f = .ok i) :
    f = commandFrame f.b4 f.b5 f.b6 f.b7 f.b8 ∧ ledCommandOf addr f.b4 f.b5 f.b6 f.b7 f.b8 = .ok i := by
  unfold decodeLedFrame at h
  split at h
  case isFalse => exact nomatch h
  case isTrue hheader =>
    split at h
    case isFalse => exact nomatch h
    case isTrue hverified =>
      refine ⟨?_, h⟩
      obtain ⟨b0, b1, b2, b3, b4, b5, b6, b7, b8, b9, b10⟩ := f
      obtain ⟨rfl, rfl, rfl, rfl⟩ := hheader
      exact (seal_eq_self_of_verify11 hverified).symm

/-- The five commands of R79, each with the parameters it asks for. -/
theorem ledCommandOf_ok_cases {addr opc p0 p1 p2 p3 : Byte} {i : Instr}
    (h : ledCommandOf addr opc p0 p1 p2 p3 = .ok i) :
    (opc = ledBrightness ∧ p1 = 0 ∧ p2 = 0 ∧ p3 = 0 ∧ i = .brightness addr p0) ∨
    (opc = ledRgb ∧ p3 = 0 ∧ i = .rgb addr p0 p1 p2) ∨
    (∃ on, opc = ledOnoff ∧ p0 = flagByte on ∧ p1 = 0 ∧ p2 = 0 ∧ p3 = 0 ∧ i = .onoff addr on) ∨
    (opc = ledBlink ∧ i = .blink addr (be16 p2 p3) (tOffOf (be16 p0 p1) (be16 p2 p3))) ∨
    (opc = ledBreath ∧ i = .breath addr (be16 p2 p3) (tOffOf (be16 p0 p1) (be16 p2 p3))) := by
  unfold ledCommandOf at h
  split_ifs at h with hbright hzero hrgb hzero honoff hzero hblink hbreath
  · obtain ⟨h1, h2, h3⟩ := hzero
    exact .inl ⟨hbright, h1, h2, h3, (Except.ok.inj h).symm⟩
  · exact .inr (.inl ⟨hrgb, hzero, (Except.ok.inj h).symm⟩)
  · obtain ⟨h1, h2, h3, rfl | rfl⟩ := hzero
    · exact .inr (.inr (.inl ⟨false, honoff, rfl, h1, h2, h3, (Except.ok.inj h).symm⟩))
    · exact .inr (.inr (.inl ⟨true, honoff, rfl, h1, h2, h3, (Except.ok.inj h).symm⟩))
  · exact .inr (.inr (.inr (.inl ⟨hblink, (Except.ok.inj h).symm⟩)))
  · exact .inr (.inr (.inr (.inr ⟨hbreath, (Except.ok.inj h).symm⟩)))

/-- `t_off` is read back from the parameter bytes of a timed frame. -/
theorem tOffOf_parameters (tOn tOff : Half) :
    tOffOf (be16 (hiByte (tHighOf tOn tOff)) (loByte (tHighOf tOn tOff))) (be16 (hiByte tOn) (loByte tOn)) = tOff := by
  simp only [be16_hiByte_loByte, tOffOf_tHighOf]

/-- Times read back from four parameters are packed into those parameters. -/
theorem timedFrame_of_parameters (opc p0 p1 p2 p3 : Byte) :
    timedFrame opc (be16 p2 p3) (tOffOf (be16 p0 p1) (be16 p2 p3)) = commandFrame opc p0 p1 p2 p3 := by
  simp only [timedFrame, tHighOf_tOffOf, hiByte_be16, loByte_be16]

end Sys2Proof

namespace Sys2Proof.Machine

open Sys2Proof

/-! ### What a completing build leaves -/

/-- A completing build, an LED command included, loads the command frame of a named opcode. -/
theorem exists_commandFrame_of_build {i : Instr} {s t : State} (hop : i.op = .frBuild ∨ i.op = .frBuildT)
    (h : exec i s = .next t) (hzero : t.status = 0) :
    ∃ addr opc p0 p1 p2 p3, ledOpcodeLegal opc = true ∧
      t = (s.loadFrame addr (commandFrame opc p0 p1 p2 p3)).complete := by
  obtain ⟨hf, rfl⟩ := exec_completes h hzero
  cases i with
  | frBuild addr opc p0 p1 p2 p3 => exact ⟨addr, opc, p0, p1, p2, p3, by simpa [faultOf] using hf, rfl⟩
  | frBuildT addr opc tOn tOff =>
    have htimed : ledOpcodeTimed opc = true := by simpa [faultOf] using hf
    exact ⟨addr, opc, _, _, _, _, ledOpcodeLegal_of_timed htimed, rfl⟩
  | brightness addr level => exact ⟨addr, ledBrightness, level, 0, 0, 0, rfl, rfl⟩
  | rgb addr r g b => exact ⟨addr, ledRgb, r, g, b, 0, rfl, rfl⟩
  | onoff addr on => exact ⟨addr, ledOnoff, flagByte on, 0, 0, 0, rfl, rfl⟩
  | blink addr tOn tOff => exact ⟨addr, ledBlink, _, _, _, _, rfl, rfl⟩
  | breath addr tOn tOff => exact ⟨addr, ledBreath, _, _, _, _, rfl, rfl⟩
  | nop | rd | frVerify | frStatus | ctrInit | ctrSample | clsSetth | clsClassify =>
    exact absurd hop (by simp [Instr.op])

/-- Settles O17: CSUM is the checksum of a command frame with a named opcode; the ends are the smallest and the largest
opcode with parameters 0 and 255. -/
theorem builtChecksumStaysInRange : Obligations.BuiltChecksumStaysInRange := by
  unfold Obligations.BuiltChecksumStaysInRange
  refine ⟨fun i s t hop h hzero => ?range, fun s => ⟨_, rfl, rfl, rfl⟩, fun s => ⟨_, rfl, rfl, rfl⟩⟩
  case range =>
    obtain ⟨addr, opc, p0, p1, p2, p3, hopc, rfl⟩ := exists_commandFrame_of_build hop h hzero
    exact chk9_commandFrame_range hopc p0 p1 p2 p3

/-- Settles O18: CFRAME is a command frame, so `verify11_commandFrame` gives the verdict, and CSUM is its sum. -/
theorem builtFramesPassVerification : Obligations.BuiltFramesPassVerification := by
  unfold Obligations.BuiltFramesPassVerification
  intro i s t hop h hzero
  obtain ⟨addr, opc, p0, p1, p2, p3, -, rfl⟩ := exists_commandFrame_of_build hop h hzero
  simp only [exec, execFrVerify, State.complete_cframe, State.loadFrame_cframe, State.loadVerdict,
    verify11_commandFrame]
  rfl

/-- Settles O19. -/
theorem zeroPayloadNeverVerifies : Obligations.ZeroPayloadNeverVerifies := by
  unfold Obligations.ZeroPayloadNeverVerifies
  refine ⟨fun b => ⟨chk9_toNat b, sum9_le b⟩, chk9_eq_zero_iff, fun s rlen x y => ?refused⟩
  case refused =>
    have hzero : chk9 ⟨0, 0, 0, 0, 0, 0, 0, 0, 0, x, y⟩ = 0 :=
      (chk9_eq_zero_iff _).mpr ⟨rfl, rfl, rfl, rfl, rfl, rfl, rfl, rfl, rfl⟩
    simp only [exec, execFrVerify, State.loadVerdict, hzero, verify11_of_chk9_eq_zero hzero]
    rfl

/-! ### Times through a status frame -/

/-- A completing FR_BUILD_T leaves its timed frame. -/
theorem cframe_of_frBuildT {addr opc : Byte} {tOn tOff : Half} {s t : State}
    (h : exec (.frBuildT addr opc tOn tOff) s = .next t) (hzero : t.status = 0) : t.cframe = timedFrame opc tOn tOff := by
  obtain ⟨-, rfl⟩ := exec_completes h hzero
  rfl

/-- A snapshot that is available is the frame's own (R115). -/
theorem snap_of_frStatus_available {rlen : Byte} {b : Frame} {s t : State} (h : exec (.frStatus rlen b) s = .next t)
    (havail : t.snap.avail = true) : ∃ mode, t.snap = Snapshot.ofFrame mode b := by
  obtain rfl := Host.Outcome.next.inj h
  obtain ⟨-, -, mode, -, hwhole⟩ | ⟨reason, -, -, hempty⟩ := snapshotDecode_cases rlen b
  · exact ⟨mode, hwhole⟩
  · have hnone : (Snapshot.decode rlen b).avail = false := hempty ▸ rfl
    exact absurd havail (ne_true_of_eq_false hnone)

/-- Settles O20: the packed bytes give back `t_high` and `t_low`, and R117 undoes R109. -/
theorem packedTimesDecodeToThemselves : Obligations.PackedTimesDecodeToThemselves := by
  unfold Obligations.PackedTimesDecodeToThemselves
  intro s t u addr opc tOn tOff b hbuild hzero h5 h6 h7 h8 hstatus havail
  obtain ⟨mode, hsnap⟩ := snap_of_frStatus_available hstatus havail
  have hframe := cframe_of_frBuildT hbuild hzero
  have hhigh : be16 b.b5 b.b6 = tHighOf tOn tOff := by rw [h5, h6, hframe]; exact be16_hiByte_loByte _
  have hlow : be16 b.b7 b.b8 = tOn := by rw [h7, h8, hframe]; exact be16_hiByte_loByte _
  rw [hsnap, Snapshot.ofFrame, hhigh, hlow]
  exact ⟨rfl, tOffOf_tHighOf tOn tOff, timeAnomaly_tHighOf tOn tOff⟩

/-! ### LED commands -/

/-- An LED command completes, whatever the state. -/
theorem faultOf_of_not_isRequest {i : Instr} (h : i.isRequest = false) (s : State) : faultOf i s = none := by
  cases i with
  | brightness | rgb | onoff | blink | breath => rfl
  | _ => exact absurd h Bool.noConfusion

/-- The frame an LED command loads reads back as the command. -/
theorem decodeLedFrame_writeOf {i : Instr} (h : i.isRequest = false) (s : State) :
    decodeLedFrame (writeOf i s).addr (writeOf i s).cframe = .ok i := by
  cases i with
  | brightness addr level => exact decodeLedFrame_commandFrame addr ledBrightness level 0 0 0
  | rgb addr r g b => exact decodeLedFrame_commandFrame addr ledRgb r g b 0
  | onoff addr on => cases on <;> exact decodeLedFrame_commandFrame addr ledOnoff _ 0 0 0
  | blink addr tOn tOff =>
    exact (decodeLedFrame_commandFrame addr ledBlink _ _ _ _).trans
      (congrArg Except.ok (congrArg₂ (Instr.blink addr) (be16_hiByte_loByte tOn) (tOffOf_parameters tOn tOff)))
  | breath addr tOn tOff =>
    exact (decodeLedFrame_commandFrame addr ledBreath _ _ _ _).trans
      (congrArg Except.ok (congrArg₂ (Instr.breath addr) (be16_hiByte_loByte tOn) (tOffOf_parameters tOn tOff)))
  | _ => exact absurd h Bool.noConfusion

/-- The command that an opcode and four parameters stand for completes with their frame. -/
theorem exec_of_ledCommandOf {addr opc p0 p1 p2 p3 : Byte} {i : Instr}
    (h : ledCommandOf addr opc p0 p1 p2 p3 = .ok i) (s : State) :
    exec i s = .next (s.loadFrame addr (commandFrame opc p0 p1 p2 p3)).complete := by
  obtain ⟨rfl, rfl, rfl, rfl, rfl⟩ | ⟨rfl, rfl, rfl⟩ | ⟨on, rfl, rfl, rfl, rfl, rfl, rfl⟩ | ⟨rfl, rfl⟩ | ⟨rfl, rfl⟩ :=
    ledCommandOf_ok_cases h
  · rfl
  · rfl
  · rfl
  · rw [← timedFrame_of_parameters]; rfl
  · rw [← timedFrame_of_parameters]; rfl

/-- Settles O42: the command's frame through `decodeLedFrame_writeOf`; the frame's command through the command frame it
is. -/
theorem builtLedFramesReadBack : Obligations.BuiltLedFramesReadBack := by
  unfold Obligations.BuiltLedFramesReadBack
  refine ⟨fun i s t hled h => ?built, fun addr f i s h => ?read⟩
  case built =>
    obtain ⟨-, rfl⟩ | ⟨c, hc, -⟩ := exec_cases h
    · exact ⟨rfl, decodeLedFrame_writeOf hled s⟩
    · exact nomatch (faultOf_of_not_isRequest hled s).symm.trans hc
  case read =>
    obtain ⟨hframe, hcommand⟩ := eq_commandFrame_of_decodeLedFrame h
    exact ⟨_, exec_of_ledCommandOf hcommand s, rfl, rfl, hframe.symm⟩

end Sys2Proof.Machine
end

section
/-! The access table of 20_memory.md R57: what each write leaves alone, what it depends on, and who writes the gates and
results of 10_state.md. -/

namespace Sys2Proof.Machine

open Sys2Proof

/-! ### What each write leaves alone -/

section
variable {s : State} {r : Reg}

theorem read_complete (h : r ≠ .status) : s.complete.read r = s.read r := by
  cases r with
  | status => exact absurd rfl h
  | _ => rfl

theorem cframe_mem_frameRegs (i : Fin 11) : Reg.cframe i ∈ frameRegs := by
  revert i
  decide

theorem read_loadFrame (h : r ∉ frameRegs) (addr : Byte) (f : Frame) : (s.loadFrame addr f).read r = s.read r := by
  cases r with
  | addr | csum => exact absurd (by decide) h
  | cframe i => exact absurd (cframe_mem_frameRegs i) h
  | _ => rfl

theorem read_loadVerdict (h : r ∉ [Reg.vok, .vsum]) (rlen : Byte) (b : Frame) :
    (s.loadVerdict rlen b).read r = s.read r := by
  cases r with
  | vok | vsum => exact absurd (by decide) h
  | _ => rfl

theorem read_loadSnapshot (h : r ∉ snapshotRegs) (p : Snapshot) : (s.loadSnapshot p).read r = s.read r := by
  cases r with
  | stAvail | stReason | stMode | stBright | stR | stG | stB | stThigh | stTlow | stTon | stToff | stTanom =>
    exact absurd (by decide) h
  | _ => rfl

theorem read_loadBaseline (h : r ∉ [Reg.baseRx, .baseTx]) (rx tx : DWord) :
    (s.loadBaseline rx tx).read r = s.read r := by
  cases r with
  | baseRx | baseTx => exact absurd (by decide) h
  | _ => rfl

theorem read_setBaseValid (h : r ≠ .baseValid) : s.setBaseValid.read r = s.read r := by
  cases r with
  | baseValid => exact absurd rfl h
  | _ => rfl

theorem read_loadReading (h : r ∉ [Reg.deltaRx, .deltaTx, .deltaValid, .wrapRx, .wrapTx]) (dRx dTx : DWord)
    (valid wRx wTx : Bool) : (s.loadReading dRx dTx valid wRx wTx).read r = s.read r := by
  cases r with
  | deltaRx | deltaTx | deltaValid | wrapRx | wrapTx => exact absurd (by decide) h
  | _ => rfl

theorem read_loadThresholds (h : r ∉ [Reg.thLow, .thMed, .thHigh, .thValid]) (low med high : Byte) :
    (s.loadThresholds low med high).read r = s.read r := by
  cases r with
  | thLow | thMed | thHigh | thValid => exact absurd (by decide) h
  | _ => rfl

theorem read_loadVisual (h : r ∉ [Reg.vstate, .vsUpd]) (v : VisualState) : (s.loadVisual v).read r = s.read r := by
  cases r with
  | vstate | vsUpd => exact absurd (by decide) h
  | _ => rfl

theorem read_skipVisual (h : r ≠ .vsUpd) : s.skipVisual.read r = s.read r := by
  cases r with
  | vsUpd => exact absurd rfl h
  | _ => rfl

/-- RDATA has no register number (R25). -/
theorem read_loadRData (v : DWord) : (s.loadRData v).read r = s.read r := by cases r <;> rfl

end

/-! ### The writes column -/

/-- STATUS is in every writes column: every request writes it (R180). -/
theorem status_mem_writesOf (i : Instr) : .status ∈ writesOf i := by
  cases i with
  | clsClassify valid u => cases valid <;> exact List.mem_cons_self
  | _ => exact List.mem_cons_self

/-- An instruction's write stays in its column. -/
theorem read_writeOf {i : Instr} {r : Reg} (h : r ∉ writesOf i) (s : State) : (writeOf i s).read r = s.read r := by
  cases i with
  | nop => rfl
  | rd n => exact read_loadRData _
  | frBuild | frBuildT | brightness | rgb | onoff | blink | breath =>
    exact read_loadFrame (List.not_mem_of_not_mem_cons h) _ _
  | frVerify rlen b => exact read_loadVerdict (List.not_mem_of_not_mem_cons h) rlen b
  | frStatus rlen b =>
    obtain ⟨hverdict, hsnap⟩ := not_or.mp (mt List.mem_append.mpr h)
    exact (read_loadSnapshot hsnap _).trans (read_loadVerdict (List.not_mem_of_not_mem_cons hverdict) rlen b)
  | ctrInit rx tx =>
    simp only [writesOf, List.mem_cons, List.not_mem_nil, or_false, not_or] at h
    obtain ⟨-, hrx, htx, hvalid, hreading⟩ := h
    calc (writeOf (.ctrInit rx tx) s).read r
        = (s.loadBaseline rx tx).setBaseValid.read r := read_loadReading (by simpa using hreading) 0 0 false false false
      _ = (s.loadBaseline rx tx).read r := read_setBaseValid hvalid
      _ = s.read r := read_loadBaseline (by simp [hrx, htx]) rx tx
  | ctrSample short rx tx =>
    simp only [writesOf, List.mem_cons, List.not_mem_nil, or_false, not_or] at h
    obtain ⟨-, hrx, htx, hreading⟩ := h
    exact (read_loadBaseline (by simp [hrx, htx]) rx tx).trans (read_loadReading (by simpa using hreading) _ _ _ _ _)
  | clsSetth low med high => exact read_loadThresholds (List.not_mem_of_not_mem_cons h) low med high
  | clsClassify valid u =>
    cases valid with
    | false => exact read_skipVisual (List.ne_of_not_mem_cons (List.not_mem_of_not_mem_cons h))
    | true => exact read_loadVisual (List.not_mem_of_not_mem_cons h) _

/-- RDATA changes under RD alone (R25). -/
theorem writeOf_rdata {i : Instr} (h : ∀ n, i ≠ .rd n) (s : State) : (writeOf i s).rdata = s.rdata := by
  cases i with
  | rd n => exact absurd rfl (h n)
  | clsClassify valid u => cases valid <;> rfl
  | _ => rfl

/-- Settles O35: STATUS is in every column, and the rest is the instruction's write. -/
theorem completingRequestsWriteOnlyTheirColumn : Obligations.CompletingRequestsWriteOnlyTheirColumn := by
  unfold Obligations.CompletingRequestsWriteOnlyTheirColumn
  intro i s t h hzero
  obtain ⟨-, rfl⟩ := exec_completes h hzero
  refine ⟨fun r hr => ?column, fun hrd => writeOf_rdata hrd s, writeOf_host i s⟩
  case column =>
    have hstatus : r ≠ .status := fun heq => hr (heq ▸ status_mem_writesOf i)
    rw [read_complete hstatus, read_writeOf hr]

/-! ### The reads column -/

/-- The states agree on the instruction's reads column. -/
def AgreeOnReads (i : Instr) (s s' : State) : Prop := ∀ r ∈ readsOf i, s.read r = s'.read r

theorem bit64_inj {a b : Bool} (h : bit64 a = bit64 b) : a = b := by
  revert a b
  decide

/-- A byte is told by its register's value: zero extension loses nothing (R46). -/
theorem byte_setWidth_inj {a b : Byte} (h : a.setWidth 64 = b.setWidth 64) : a = b := by
  have := a.isLt
  have := b.isLt
  have hnum := congrArg BitVec.toNat h
  simp only [BitVec.toNat_setWidth] at hnum
  exact BitVec.eq_of_toNat_eq (by omega)

section
variable {s s' : State}

theorem AgreeOnReads.baseline {short : Bool} {rx tx : DWord} (h : AgreeOnReads (.ctrSample short rx tx) s s') :
    s.baseValid = s'.baseValid ∧ s.baseRx = s'.baseRx ∧ s.baseTx = s'.baseTx :=
  ⟨bit64_inj (h .baseValid (by simp [readsOf])), h .baseRx (by simp [readsOf]), h .baseTx (by simp [readsOf])⟩

theorem AgreeOnReads.thresholds {valid : Bool} {u : DWord} (h : AgreeOnReads (.clsClassify valid u) s s') :
    s.thValid = s'.thValid ∧ s.thLow = s'.thLow ∧ s.thMed = s'.thMed ∧ s.thHigh = s'.thHigh :=
  ⟨bit64_inj (h .thValid (by simp [readsOf])), byte_setWidth_inj (h .thLow (by simp [readsOf])),
    byte_setWidth_inj (h .thMed (by simp [readsOf])), byte_setWidth_inj (h .thHigh (by simp [readsOf]))⟩

/-- A fault is decided by the operands and the reads column. -/
theorem faultOf_eq_of_agree {i : Instr} (h : AgreeOnReads i s s') : faultOf i s = faultOf i s' := by
  cases i with
  | ctrSample short rx tx =>
    obtain ⟨hvalid, -, -⟩ := h.baseline
    simp only [faultOf, hvalid]
  | clsClassify valid u =>
    obtain ⟨hvalid, -, -, -⟩ := h.thresholds
    simp only [faultOf, hvalid]
  | _ => rfl

/-- What a build loads does not depend on the state. -/
theorem read_loadFrame_eq {r : Reg} (h : r ∈ frameRegs) (addr : Byte) (f : Frame) :
    (s.loadFrame addr f).read r = (s'.loadFrame addr f).read r := by
  cases r with
  | addr | csum | cframe => rfl
  | _ => exact absurd h (by decide)

/-- Nor does what FR_STATUS loads. -/
theorem read_loadVerdict_loadSnapshot_eq {r : Reg} (h : r ∈ [.vok, .vsum] ++ snapshotRegs) (rlen : Byte) (b : Frame)
    (p : Snapshot) :
    ((s.loadVerdict rlen b).loadSnapshot p).read r = ((s'.loadVerdict rlen b).loadSnapshot p).read r := by
  cases r with
  | vok | vsum | stAvail | stReason | stMode | stBright | stR | stG | stB | stThigh | stTlow | stTon | stToff
    | stTanom => rfl
  | cframe i => exact absurd h (by simp [snapshotRegs])
  | _ => exact absurd h (by decide)

/-- What an instruction writes in its column is decided by the operands and the reads column. -/
theorem read_writeOf_eq_of_agree {i : Instr} {r : Reg} (h : AgreeOnReads i s s') (hr : r ∈ writesOf i)
    (hstatus : r ≠ .status) : (writeOf i s).read r = (writeOf i s').read r := by
  cases i with
  | nop | rd => exact absurd (List.mem_singleton.mp hr) hstatus
  | frBuild | frBuildT | brightness | rgb | onoff | blink | breath =>
    exact read_loadFrame_eq (List.mem_of_ne_of_mem hstatus hr) _ _
  | frVerify rlen b =>
    have hcol := List.mem_of_ne_of_mem hstatus hr
    simp only [List.mem_cons, List.not_mem_nil, or_false] at hcol
    rcases hcol with rfl | rfl <;> rfl
  | frStatus rlen b => exact read_loadVerdict_loadSnapshot_eq (List.mem_of_ne_of_mem hstatus hr) rlen b _
  | ctrInit rx tx =>
    have hcol := List.mem_of_ne_of_mem hstatus hr
    simp only [List.mem_cons, List.not_mem_nil, or_false] at hcol
    rcases hcol with rfl | rfl | rfl | rfl | rfl | rfl | rfl | rfl <;> rfl
  | ctrSample short rx tx =>
    obtain ⟨-, hrx, htx⟩ := h.baseline
    have hcol := List.mem_of_ne_of_mem hstatus hr
    simp only [List.mem_cons, List.not_mem_nil, or_false] at hcol
    simp only [writeOf, hrx, htx]
    rcases hcol with rfl | rfl | rfl | rfl | rfl | rfl | rfl <;> rfl
  | clsSetth low med high =>
    have hcol := List.mem_of_ne_of_mem hstatus hr
    simp only [List.mem_cons, List.not_mem_nil, or_false] at hcol
    rcases hcol with rfl | rfl | rfl | rfl <;> rfl
  | clsClassify valid u =>
    obtain ⟨-, hlow, hmed, hhigh⟩ := h.thresholds
    cases valid with
    | false =>
      obtain rfl := List.mem_singleton.mp (List.mem_of_ne_of_mem hstatus hr)
      rfl
    | true =>
      have hcol := List.mem_of_ne_of_mem hstatus hr
      simp only [List.mem_cons, List.not_mem_nil, or_false] at hcol
      simp only [writeOf, hlow, hmed, hhigh]
      rcases hcol with rfl | rfl <;> rfl

/-- RD's response is the register it reads. -/
theorem writeOf_rd_rdata_eq_of_agree {n : Byte} (h : AgreeOnReads (.rd n) s s') (hf : faultOf (.rd n) s = none) :
    (writeOf (.rd n) s).rdata = (writeOf (.rd n) s').rdata := by
  cases hr : regOf n with
  | none => simp [faultOf, hr] at hf
  | some r => simpa [writeOf, hr] using h r (by simp [readsOf, hr])

end

/-- Settles O36: agreement decides the fault, so the two runs end alike, and then what they write. -/
theorem effectsDependOnlyOnReadColumn : Obligations.EffectsDependOnlyOnReadColumn := by
  unfold Obligations.EffectsDependOnlyOnReadColumn
  intro i s s' t t' (hagree : AgreeOnReads i s s') h h'
  have hstatus : t.status = t'.status := by
    rw [(exec_endsIn h).status_eq, (exec_endsIn h').status_eq, faultOf_eq_of_agree hagree]
  refine ⟨hstatus, fun hzero => ?_⟩
  obtain ⟨hf, rfl⟩ := exec_completes h hzero
  obtain ⟨-, rfl⟩ := exec_completes h' (hstatus.symm.trans hzero)
  refine ⟨fun r hr => ?column, fun ⟨n, hn⟩ => ?rdata⟩
  case column =>
    by_cases hne : r = .status
    · subst hne; rfl
    · rw [read_complete hne, read_complete hne, read_writeOf_eq_of_agree hagree hr hne]
  case rdata =>
    subst hn
    exact writeOf_rd_rdata_eq_of_agree hagree hf

/-! ### Repetition -/

/-- STATUS has one register number. -/
theorem regOf_eq_status_iff (n : Byte) : regOf n = some .status ↔ n = 0x00 := by
  revert n
  decide

/-- Writing again what a completing instruction wrote changes nothing, but for the two whose write depends on what it
changes. -/
theorem writeOf_writeOf {i : Instr} (hsample : ∀ short rx tx, i ≠ .ctrSample short rx tx) (hrd : i ≠ .rd 0x00)
    (s : State) : (writeOf i (writeOf i s).complete).complete = (writeOf i s).complete := by
  cases i with
  | ctrSample short rx tx => exact absurd rfl (hsample short rx tx)
  | clsClassify valid u => cases valid <;> rfl
  | rd n =>
    cases hr : regOf n with
    | none => simp only [writeOf, hr]; rfl
    | some r =>
      have hne : r ≠ .status := by
        rintro rfl
        exact hrd (congrArg Instr.rd ((regOf_eq_status_iff n).mp hr))
      simp only [writeOf, hr, Option.elim_some, read_complete hne, read_loadRData]
      rfl
  | _ => rfl

/-- Settles O37: the gates let the repetition complete, and its write is the one already made. -/
theorem repeatedRequestsChangeNothingMore : Obligations.RepeatedRequestsChangeNothingMore := by
  unfold Obligations.RepeatedRequestsChangeNothingMore
  intro i s t h hzero hsample hrd
  obtain ⟨hf, rfl⟩ := exec_completes h hzero
  rw [exec_eq, answerOf, faultOf_writeOf hf, Option.elim_none, writeOf_writeOf hsample hrd]

/-! ### Gates and results -/

section
variable {i : Instr} {s : State}

/-- BASE_VALID is CTR_INIT's (R38). -/
theorem baseValid_writer (h : (writeOf i s).baseValid ≠ s.baseValid) :
    (∃ rx tx, i = .ctrInit rx tx) ∧ (writeOf i s).baseValid = true := by
  cases i with
  | ctrInit rx tx => exact ⟨⟨rx, tx, rfl⟩, rfl⟩
  | clsClassify valid u => cases valid <;> exact absurd rfl h
  | _ => exact absurd rfl h

/-- TH_VALID is CLS_SETTH's (R43). -/
theorem thValid_writer (h : (writeOf i s).thValid ≠ s.thValid) :
    (∃ low med high, i = .clsSetth low med high) ∧ (writeOf i s).thValid = true := by
  cases i with
  | clsSetth low med high => exact ⟨⟨low, med, high, rfl⟩, rfl⟩
  | clsClassify valid u => cases valid <;> exact absurd rfl h
  | _ => exact absurd rfl h

/-- VSTATE is CLS_CLASSIFY's with VALID = 1 (R44). -/
theorem vstate_writer (h : (writeOf i s).vstate ≠ s.vstate) : ∃ u, i = .clsClassify true u := by
  cases i with
  | clsClassify valid u =>
    cases valid with
    | true => exact ⟨u, rfl⟩
    | false => exact absurd rfl h
  | _ => exact absurd rfl h

/-- RDATA is RD's (R25). -/
theorem rdata_writer (h : (writeOf i s).rdata ≠ s.rdata) : ∃ n, i = .rd n := by
  by_contra hrd
  exact h (writeOf_rdata (fun n hn => hrd ⟨n, hn⟩) s)

end

/-- Settles O38: a fault changes none of the four, and each has its writer. -/
theorem gatesAndResultsHaveOneWriter : Obligations.GatesAndResultsHaveOneWriter := by
  unfold Obligations.GatesAndResultsHaveOneWriter
  intro i s t h
  obtain ⟨hf, rfl⟩ | ⟨c, -, rfl⟩ := exec_cases h
  · refine ⟨baseValid_writer, thValid_writer, fun hne => ?vstate, fun hne => ⟨rdata_writer hne, rfl⟩⟩
    case vstate =>
      obtain ⟨u, rfl⟩ := vstate_writer hne
      exact ⟨⟨u, rfl⟩, rfl, thValid_of_classify_completes hf⟩
  · exact ⟨absurd rfl, absurd rfl, absurd rfl, absurd rfl⟩

end Sys2Proof.Machine
end

section
/-! What the spec derives of the counter and the classifier: the modular difference and the minimum interval
(41_counter.md), the exactness of the comparison (00_scope.md R14), ordered and degenerate thresholds
(42_classifier.md). -/

namespace Sys2Proof

/-! ### The delta across a wrap -/

/-- The wrap branch starts from U64_MAX, which is one below 0. -/
theorem wdelta_add_one_of_lt {cur prev : DWord} (h : cur.toNat < prev.toNat) : wdelta cur prev + 1 = cur - prev := by
  have hmax : BitVec.allOnes 64 + 1 = 0 := by decide
  calc wdelta cur prev + 1
      = (BitVec.allOnes 64 - prev) + cur + 1 := by rw [wdelta_of_lt h]
    _ = (BitVec.allOnes 64 + 1) + (cur - prev) := by ring
    _ = cur - prev := by rw [hmax, zero_add]

/-- Settles O24: one clause for each branch of WDELTA. -/
theorem wdeltaAgainstModularDifference : Obligations.WdeltaAgainstModularDifference := by
  unfold Obligations.WdeltaAgainstModularDifference
  exact fun cur prev => ⟨fun hwrap => ⟨Machine.wdelta_le_of_wrapFlag (decide_eq_true hwrap), wdelta_add_one_of_lt hwrap⟩,
    wdelta_of_le⟩

/-! ### The comparison -/

/-- Settles O28: finite patterns by `f64Lt_iff_of_finite`, the infinities by their sign bit, and both zeros scale
to 0. -/
theorem comparisonIsExactOnRealValues : Obligations.ComparisonIsExactOnRealValues := by
  unfold Obligations.ComparisonIsExactOnRealValues
  refine ⟨fun w t hfinite => f64Lt_iff_of_finite hfinite t,
    fun t => ⟨f64Lt_of_special (by decide) t, f64Lt_of_special (by decide) t⟩, fun t => ?zeros, fun w => ?nan⟩
  case zeros =>
    have hspecial : f64Special 0x8000000000000000 = f64Special 0 := by decide
    have hscaled : f64Scaled 0x8000000000000000 = f64Scaled 0 := by decide
    have hfinite : f64Special 0 = false := by decide
    rw [f64Lt, f64Lt, hspecial, hscaled, hfinite]
    rfl
  case nan => rw [isNaN_eq_true_iff, ne_eq, ne_eq, ← BitVec.toNat_inj]; rfl

/-- A pattern below a threshold is below every higher one. -/
theorem f64Lt_mono {w : DWord} {m n : Nat} (hle : m ≤ n) (h : f64Lt w m = true) : f64Lt w n = true := by
  by_cases hspecial : (w.extractLsb' 52 11).toNat = 0x7FF
  · rw [f64Lt_of_special hspecial] at h ⊢
    exact h
  · rw [f64Lt_iff_of_finite hspecial] at h ⊢
    exact h.trans_le (Nat.cast_le.mpr hle)

/-! ### Which class the first-match chain gives (R162) -/

section
variable {u : DWord} {l m h : Byte}

theorem classify_eq_off_iff : classify u l m h = .off ↔ f64Lt u l.toNat = true := by
  unfold classify
  split_ifs <;> simp [*]

theorem classify_eq_low_iff : classify u l m h = .low ↔ ¬ f64Lt u l.toNat = true ∧ f64Lt u m.toNat = true := by
  unfold classify
  split_ifs <;> simp [*]

theorem classify_eq_medium_iff :
    classify u l m h = .medium ↔
      ¬ f64Lt u l.toNat = true ∧ ¬ f64Lt u m.toNat = true ∧ f64Lt u h.toNat = true := by
  unfold classify
  split_ifs <;> simp [*]

theorem classify_eq_high_iff :
    classify u l m h = .high ↔
      ¬ f64Lt u l.toNat = true ∧ ¬ f64Lt u m.toNat = true ∧ ¬ f64Lt u h.toNat = true := by
  unfold classify
  split_ifs <;> simp [*]

end

/-- For a finite usage the chain compares real values. -/
theorem classify_iff_of_finite {u : DWord} (hfinite : (u.extractLsb' 52 11).toNat ≠ 0x7FF) (l m h : Byte) :
    (classify u l m h = .off ↔ ieeeValue u < l.toNat) ∧
    (classify u l m h = .low ↔ l.toNat ≤ ieeeValue u ∧ ieeeValue u < m.toNat) ∧
    (classify u l m h = .medium ↔ l.toNat ≤ ieeeValue u ∧ m.toNat ≤ ieeeValue u ∧ ieeeValue u < h.toNat) ∧
    (classify u l m h = .high ↔ l.toNat ≤ ieeeValue u ∧ m.toNat ≤ ieeeValue u ∧ h.toNat ≤ ieeeValue u) := by
  simp only [classify_eq_off_iff, classify_eq_low_iff, classify_eq_medium_iff, classify_eq_high_iff,
    f64Lt_iff_of_finite hfinite, not_lt, and_self]

/-- Settles O29: with ordered thresholds the earlier comparisons of the chain follow from the last one. -/
theorem orderedThresholdsGiveHalfOpenBands : Obligations.OrderedThresholdsGiveHalfOpenBands := by
  unfold Obligations.OrderedThresholdsGiveHalfOpenBands
  intro u l m h hfinite hlm hmh _ hmax
  have hlm' : (l.toNat : ℚ) ≤ m.toNat := Nat.cast_le.mpr hlm
  have hmh' : (m.toNat : ℚ) ≤ h.toNat := Nat.cast_le.mpr hmh
  obtain ⟨hoff, hlow, hmedium, hhigh⟩ := classify_iff_of_finite hfinite l m h
  have hhigh' : classify u l m h = .high ↔ h.toNat ≤ ieeeValue u :=
    hhigh.trans ⟨fun ⟨_, _, hge⟩ => hge, fun hge => ⟨(hlm'.trans hmh').trans hge, hmh'.trans hge, hge⟩⟩
  have hmedium' : classify u l m h = .medium ↔ m.toNat ≤ ieeeValue u ∧ ieeeValue u < h.toNat :=
    hmedium.trans ⟨fun ⟨_, hband⟩ => hband, fun ⟨hge, hlt⟩ => ⟨hlm'.trans hge, hge, hlt⟩⟩
  refine ⟨hoff, hlow, hmedium', hhigh', fun hout hclass => ?unreachable⟩
  case unreachable =>
    have hge : (h.toNat : ℚ) ≤ 100 := (hhigh'.mp hclass).trans hmax
    exact absurd (Nat.cast_le.mp (by exact_mod_cast hge)) (Nat.not_le.mpr hout)

/-- A medium threshold that is not above the low one leaves LOW out of reach. -/
theorem classify_ne_low {l m : Byte} (hle : m.toNat ≤ l.toNat) (u : DWord) (h : Byte) : classify u l m h ≠ .low := by
  intro hclass
  obtain ⟨hnot, hbelow⟩ := classify_eq_low_iff.mp hclass
  exact hnot (f64Lt_mono hle hbelow)

/-- Equal upper thresholds leave MEDIUM out of reach. -/
theorem classify_ne_medium (u : DWord) (l m : Byte) : classify u l m m ≠ .medium := by
  intro hclass
  obtain ⟨-, hnot, hbelow⟩ := classify_eq_medium_iff.mp hclass
  exact hnot hbelow

/-- Settles O30: which comparisons of the chain are decided by the others, and by a low threshold of 0. -/
theorem degenerateThresholdsFollowTheChain : Obligations.DegenerateThresholdsFollowTheChain := by
  unfold Obligations.DegenerateThresholdsFollowTheChain
  refine ⟨fun u l h => classify_ne_low le_rfl u h, fun u l h hfinite hge hlt => ?equal, classify_ne_medium,
    fun u l m h hle => classify_ne_low hle u h, fun u m h hfinite hnonneg => ?zero, fun u hfinite => ?inverted⟩
  case equal =>
    obtain ⟨-, -, hmedium, -⟩ := classify_iff_of_finite hfinite l l h
    exact hmedium.mpr ⟨hge, hge, hlt⟩
  case zero =>
    have hge : ((0 : Byte).toNat : ℚ) ≤ ieeeValue u := hnonneg
    obtain ⟨hoff, hlow, hmedium, -⟩ := classify_iff_of_finite hfinite 0 m h
    obtain ⟨-, -, -, hhigh⟩ := classify_iff_of_finite hfinite 0 0 0
    refine ⟨fun hclass => absurd (hoff.mp hclass) hge.not_gt, fun hvalue hpos => hlow.mpr ⟨hge, ?_⟩,
      fun hvalue hm hpos => hmedium.mpr ⟨hge, hm ▸ hge, ?_⟩, hhigh.mpr ⟨hge, hge, hge⟩⟩
    all_goals rw [hvalue]; exact Nat.cast_pos.mpr hpos
  case inverted =>
    obtain ⟨hoff, -, hmedium, hhigh⟩ := classify_iff_of_finite hfinite 50 20 80
    have h50 : ((50 : Byte).toNat : ℚ) = 50 := rfl
    have h20 : ((20 : Byte).toNat : ℚ) = 20 := rfl
    have h80 : ((80 : Byte).toNat : ℚ) = 80 := rfl
    rw [h50] at hoff hmedium hhigh
    rw [h20, h80] at hmedium hhigh
    exact ⟨hoff.mpr, fun hge hlt => hmedium.mpr ⟨hge, by linarith, hlt⟩,
      fun hge => hhigh.mpr ⟨by linarith, by linarith, hge⟩⟩

end Sys2Proof

namespace Sys2Proof.Machine

open Sys2Proof

/-- Settles O25: DELTA_VALID is the negation of SHORT, which the host finds as "below 100 ms". -/
theorem shortIntervalIsNeverValid : Obligations.ShortIntervalIsNeverValid := by
  unfold Obligations.ShortIntervalIsNeverValid
  intro s elapsedMs rx tx hbase
  refine ⟨_, exec_ctrSample_of_baseline hbase _ rx tx, ?_⟩
  show (!hostShort elapsedMs) = true ↔ 100 ≤ elapsedMs
  rw [Bool.not_eq_true', hostShort, decide_eq_false_iff_not]
  exact Nat.not_lt

end Sys2Proof.Machine
end
